-- ==== Sys2Proof/Word.lean ====
section
/-! DEFINITION. The two bit-vector widths of the CORE (00_scope.md R10): bytes and 16-bit words. -/

namespace Sys2Proof

/-- An 8-bit value: a general register, F, a bus datum (R10, R30). -/
abbrev Byte := BitVec 8

/-- A 16-bit value: PC, SP, a register pair, a bus address (R10). -/
abbrev Word := BitVec 16

end Sys2Proof
end

