-- ==== Sys2Proof/Machine/Bits.lean ====
section
/-! DEFINITION. The bit-field, byte-order and sign-extension helpers of the notation of 00_scope.md R13 and R15. -/

namespace Sys2Proof.Machine

/-- `{hi, lo}` (R13): the word with `hi` in bits 15:8. -/
def wordOf (hi lo : Byte) : Word := hi ++ lo

/-- `v[15:8]`. -/
def hiByte (v : Word) : Byte := v.extractLsb' 8 8

/-- `v[7:0]`. -/
def loByte (v : Word) : Byte := v.extractLsb' 0 8

/-- `sext_8(v)` to 16 bits (R15, 30_encoding.md R152). -/
def sext8 (v : Byte) : Word := v.signExtend 16

/-- The address `0xFF00 + n` of the high page (30_encoding.md R152). -/
def highPage (n : Byte) : Word := wordOf 0xFF n

/-- A carry bit as the number 0 or 1. -/
def bitNat (b : Bool) : Nat := if b then 1 else 0

/-- `x = op[7:6]` (30_encoding.md R151). -/
def fieldX (op : Byte) : BitVec 2 := op.extractLsb' 6 2

/-- `y = op[5:3]` (R151). -/
def fieldY (op : Byte) : BitVec 3 := op.extractLsb' 3 3

/-- `z = op[2:0]` (R151). -/
def fieldZ (op : Byte) : BitVec 3 := op.extractLsb' 0 3

/-- `p = op[5:4]` (R151). -/
def fieldP (op : Byte) : BitVec 2 := op.extractLsb' 4 2

/-- `q = op[3]` (R151). -/
def fieldQ (op : Byte) : Bool := op.getLsbD 3

end Sys2Proof.Machine
end

