-- ==== Sys2Proof/Config.lean ====
section
/-! DEFINITION. What is fixed for one session: the parameters of 00_scope.md R12 (10_state.md R46).
A parameter with a default in R12 is a field of `Params`, held in State and changed by no step, so that a statement about every
state is a statement about every value of it; the two OPEN ones that no rule gives a default, STAT_BIT7 and JOYP_READ, are
constants without a body, so that nothing can be proved of their values. -/

namespace Sys2Proof

/-- `STAT_BIT7` (R12, 60_exceptions.md R523): the bit read in STAT bit 7, fixed for the run, OPEN. DESIGN CHOICE (safe, log 2):
a constant with no body. -/
opaque Config.statBit7 : Bool

/-- `JOYP_READ` (R12, 60_exceptions.md R570): the byte read at 0xFF00 for each value of the two stored select bits, supplied by
the host, OPEN. DESIGN CHOICE (safe, log 2): a function with no body. -/
opaque Config.joypRead : BitVec 2 → Byte

/-- `IRQ_DISPATCH_CYCLES` (R12, 60_exceptions.md R471): the two values the spec admits. -/
inductive IrqCycles where
  | sixteen | twenty
  deriving DecidableEq, Repr

/-- The cycle count an `IrqCycles` stands for. -/
def IrqCycles.count : IrqCycles → Nat
  | .sixteen => 16
  | .twenty => 20

/-- The parameters of R12 that have a default there, and the boot image. -/
structure Params where
  /-- `IRQ_DISPATCH_CYCLES`, default 20 (60_exceptions.md R471). -/
  irqCycles : IrqCycles
  /-- `HALT_WAKES_WITHOUT_IME`, default false (60_exceptions.md R456). -/
  haltWakes : Bool
  /-- `OAM_CPU_WINDOW`, default false (20_memory.md R95). -/
  oamWindow : Bool
  /-- `STAT_IRQ`, default false (60_exceptions.md R556). -/
  statIrq : Bool
  /-- The complement of `SOUND_ACCEPT` (60_exceptions.md R572): the (address, byte) pairs the sound unit's validation refuses.
  Every predicate on the 48 × 256 pairs is such a list; the default, accept all, is the empty list. -/
  soundRefused : List (Word × Byte)
  /-- `BOOT` (70_reset_and_hazards.md R602): the bytes of the 256-byte boot image by address 0..255, those equal to 0x00 left
  out; empty when no image is supplied. -/
  boot : List (Nat × Byte)
  deriving DecidableEq, Repr

/-- The defaults of R12, with no boot image (the post-boot profile of 70_reset_and_hazards.md R602). -/
def Params.default : Params :=
  { irqCycles := .twenty, haltWakes := false, oamWindow := false, statIrq := false, soundRefused := [], boot := [] }

end Sys2Proof
end

