-- ==== Sys2Proof/Machine/State.lean ====
section
/-! DEFINITION. The state of the CORE as plain data (10_state.md R30 to R46), its faults (60_exceptions.md R460) and the state
after reset (70_reset_and_hazards.md R600 to R607). -/

namespace Sys2Proof.Machine

/-- The contents of one memory, by offset: the pairs in strictly rising order of offset, none with value 0, which is what an
unlisted offset reads as (`Memory.wf`). `Memory 8` is `List Host.Cell`. -/
abbrev Memory (w : Nat) := List (Nat × BitVec w)

/-- The CPU register file and control state (R30 to R42). -/
structure Cpu where
  a : Byte
  /-- The flags register: Z, N, H, C in bits 7, 6, 5, 4; bits 3:0 zero (R32, R33). -/
  f : Byte
  b : Byte
  c : Byte
  d : Byte
  e : Byte
  h : Byte
  l : Byte
  sp : Word
  pc : Word
  /-- The interrupt-master-enable flag (R40). -/
  ime : Bool
  /-- Set by HALT, cleared by interrupt dispatch (R41). -/
  halted : Bool
  deriving DecidableEq, Repr

/-- The cartridge (20_memory.md R110). -/
structure Cart where
  /-- The ROM image by ROM offset; no step changes it (R46, R110). -/
  rom : Memory 8
  /-- The length of the ROM image in bytes. -/
  romLen : Nat
  /-- `bank_index` (R118). -/
  bank : Byte
  ramEnabled : Bool
  /-- Battery RAM by offset (R116). -/
  ram : Memory 8
  deriving DecidableEq, Repr

/-- The interrupt controller: IE at 0xFFFF and IF at 0xFF0F (60_exceptions.md R466, R467). -/
structure Irq where
  ie : Byte
  iflag : Byte
  deriving DecidableEq, Repr

/-- The timer (60_exceptions.md R480). -/
structure Timer where
  /-- The 16-bit internal counter; DIV is its top byte. -/
  cnt : Word
  tima : Byte
  tma : Byte
  tac : Byte
  deriving DecidableEq, Repr

/-- The PPU mode (60_exceptions.md R500, R520). -/
inductive PpuMode where
  /-- 0, H-blank. -/
  | hblank
  /-- 1, V-blank. -/
  | vblank
  /-- 2, OAM scan. -/
  | oamScan
  /-- 3, pixel transfer. -/
  | transfer
  deriving DecidableEq, Repr

/-- An OAM-DMA transfer in progress: the source address and the bytes transferred so far (60_exceptions.md R560). -/
structure DmaTransfer where
  source : Word
  offset : Nat
  deriving DecidableEq, Repr

/-- The PPU (60_exceptions.md R500) with its OAM-DMA engine. -/
structure Ppu where
  /-- Video RAM by offset from 0x8000 (R501). -/
  vram : Memory 8
  /-- Object attribute memory, 160 bytes (R502). -/
  oam : Memory 8
  lcdc : Byte
  /-- The interrupt-select bits STAT[6:3] (R520). -/
  statSel : BitVec 4
  scy : Byte
  scx : Byte
  ly : Byte
  lyc : Byte
  /-- The readback value of the DMA register (R532). -/
  dma : Byte
  bgp : Byte
  obp0 : Byte
  obp1 : Byte
  wy : Byte
  wx : Byte
  /-- The stored coincidence bit (R521). -/
  coincidence : Bool
  /-- The dot counter, 0..455. -/
  dot : Nat
  mode : PpuMode
  /-- The line object list: OAM indices (R555). -/
  lineObjects : List Nat
  /-- The DMA sub-state: idle, or a transfer (R560). -/
  dmaState : Option DmaTransfer
  /-- The last value of the STAT interrupt line, used when STAT_IRQ (R556). -/
  statLine : Bool
  /-- The framebuffer: the two-bit colour of pixel (x, y) at key 160·y + x (R552). -/
  fb : Memory 2
  deriving DecidableEq, Repr

/-- The port registers of the joypad, the serial unit and the sound unit (60_exceptions.md R570 to R572). -/
structure Ports where
  /-- The joypad select bits, 0xFF00 bits 5:4. -/
  joypSel : BitVec 2
  /-- Serial data, 0xFF01. -/
  sb : Byte
  /-- Serial control, 0xFF02. -/
  sc : Byte
  /-- The sound registers by offset from 0xFF10. -/
  sound : Memory 8
  deriving DecidableEq, Repr

/-- The whole machine (R44). -/
structure State where
  cpu : Cpu
  /-- The boot overlay bit (20_memory.md R88). -/
  overlay : Bool
  /-- Work RAM by offset from 0xC000 (20_memory.md R90). -/
  wram : Memory 8
  /-- High RAM by offset from 0xFF80 (20_memory.md R91). -/
  hram : Memory 8
  cart : Cart
  irq : Irq
  timer : Timer
  ppu : Ppu
  ports : Ports
  /-- The session's parameters; no step changes them (R46). -/
  params : Params
  /-- The MODEL's own field: the cycle count the last CPU step returned (60_exceptions.md R455), which the driving loop
  ticks the devices by (R580). -/
  cycles : Nat
  deriving DecidableEq, Repr

/-- One bus access, as a fault records it (60_exceptions.md R460). -/
inductive Access where
  | read (addr : Word)
  | write (addr : Word) (value : Byte)
  deriving DecidableEq, Repr

/-- Who made an access (60_exceptions.md R460, R586). -/
inductive Agent where
  | cpu
  | dma
  deriving DecidableEq, Repr

/-- The fault kinds of 60_exceptions.md R460. Each records the kind's info, the agent where an access raised it, and the state as it
stood when the fault was raised (R462, R463). A fault ends the session; every one is the spec's own, so each is safe. -/
inductive Fault where
  /-- Code 1. An access to an address or register direction with no target: raised by the bus (20_memory.md R82, R89, R120)
  and by a write of LY (R527). Safe: the spec names it. -/
  | unmapped (agent : Agent) (access : Access) (left : State)
  /-- Code 2. An access to 0xA000–0xBFFF without present and enabled battery RAM: raised by the bus (20_memory.md R116, R119).
  Safe: the spec names it. -/
  | cartRam (agent : Agent) (access : Access) (left : State)
  /-- Code 3. Execution of a gap opcode (47_system.md R425): the opcode's address and byte. Safe: the spec names it. -/
  | illegalOpcode (pc : Word) (opcode : Byte) (left : State)
  /-- Code 4. A ROM read past the image, raised by the bus (20_memory.md R114, R115): the CPU address and the bank.
  Safe: the spec names it. -/
  | romBounds (agent : Agent) (addr : Word) (bank : Byte) (left : State)
  /-- Code 5. A write of 0xFF46 while a transfer runs (R562): the value and the transfer's offset. Safe: the spec names it. -/
  | dmaRetrigger (agent : Agent) (value : Byte) (offset : Nat) (left : State)
  /-- Code 6. F[3:0] ≠ 0 after an instruction (10_state.md R33), raised by the CPU step; unreachable from reset.
  Safe: the spec names it. -/
  | flagNibble (f : Byte) (left : State)
  /-- Code 7. A write of a value above 0xDF to 0xFF46 (R564). Safe: the spec names it. -/
  | dmaSource (agent : Agent) (value : Byte) (left : State)
  /-- Code 8. Execution of STOP (47_system.md R422): the opcode's address and byte. Safe: the spec names it. -/
  | unsupported (pc : Word) (opcode : Byte) (left : State)
  /-- Code 9. A sound-register write the sound unit's validation refuses (R572). Safe: the spec names it. -/
  | soundRejected (agent : Agent) (addr : Word) (value : Byte) (left : State)
  deriving DecidableEq, Repr

/-- The numeric fault codes of 60_exceptions.md R460. -/
def Fault.code : Fault → Nat
  | .unmapped _ _ _ => 1
  | .cartRam _ _ _ => 2
  | .illegalOpcode _ _ _ => 3
  | .romBounds _ _ _ _ => 4
  | .dmaRetrigger _ _ _ _ => 5
  | .flagNibble _ _ => 6
  | .dmaSource _ _ _ => 7
  | .unsupported _ _ _ => 8
  | .soundRejected _ _ _ _ => 9

/-- The state a fault leaves (60_exceptions.md R462, R463). -/
def Fault.left : Fault → State
  | .unmapped _ _ s => s
  | .cartRam _ _ s => s
  | .illegalOpcode _ _ s => s
  | .romBounds _ _ _ s => s
  | .dmaRetrigger _ _ _ s => s
  | .flagNibble _ s => s
  | .dmaSource _ _ s => s
  | .unsupported _ _ s => s
  | .soundRejected _ _ _ s => s

/-- Why the model has no meaning for an instruction. -/
inductive Refusal where
  /-- Raised by `exec`'s arm of an instruction that has no meaning yet; no arm raises it now. Safe: the model stops. -/
  | notModelled (mnemonic : String)
  deriving DecidableEq, Repr

/-- The twelve PPU registers at 0xFF40–0xFF4B, in address order (20_memory.md R80). -/
inductive PpuReg where
  | lcdc | stat | scy | scx | ly | lyc | dma | bgp | obp0 | obp1 | wy | wx
  deriving DecidableEq, Repr

/-- What a bus address selects: the rows of the dispatch tables (20_memory.md R80, R81), each memory with its offset. -/
inductive Target where
  | boot (off : Nat)
  | rom (off : Nat)
  | romBank (off : Nat)
  | vram (off : Nat)
  | cartRam (off : Nat)
  | wram (off : Nat)
  | oam (off : Nat)
  | joyp
  | serialData
  | serialControl
  | div
  | tima
  | tma
  | tac
  | iflag
  | sound (off : Nat)
  | ppu (r : PpuReg)
  | bootOff
  | hram (off : Nat)
  | ie
  | unmapped
  deriving DecidableEq, Repr

/-- The interrupt sources in priority order (60_exceptions.md R465). -/
inductive IrqSource where
  | vblank | lcdStat | timer | serial | joypad
  deriving DecidableEq, Repr

/-- The outcome of an instruction or a step. -/
abbrev Exec := Host.Outcome State Fault Refusal

/-- CPU registers of the post-boot profile (70_reset_and_hazards.md R601, R602). -/
def Cpu.postBoot : Cpu :=
  { a := 0x01, f := 0xB0, b := 0x00, c := 0x13, d := 0x00, e := 0xD8, h := 0x01, l := 0x4D, sp := 0xFFFE, pc := 0x0100,
    ime := false, halted := false }

/-- The PPU of the post-boot profile (R603, R604, R606). DESIGN CHOICE (unsafe, log 4): video RAM and OAM hold 0x00. -/
def Ppu.postBoot : Ppu :=
  { vram := [], oam := [], lcdc := 0x91, statSel := 0, scy := 0, scx := 0, ly := 0, lyc := 0, dma := 0xFF, bgp := 0xFC,
    obp0 := 0xFF, obp1 := 0xFF, wy := 0, wx := 0, coincidence := true, dot := 0, mode := .oamScan, lineObjects := [],
    dmaState := none, statLine := false, fb := [] }

/-- The machine right after reset: the post-boot start profile, `BOOT` absent (70_reset_and_hazards.md R602 to R607).
DESIGN CHOICE (unsafe, log 1, log 3, log 4): the profile, a 32 KiB ROM of 0x00 bytes, and memories that hold 0x00; `construct` is
the same construction for any ROM, boot image, start registers, memories and parameters. -/
def State.reset : State :=
  { cpu := Cpu.postBoot, overlay := false, wram := [], hram := [],
    cart := { rom := [], romLen := 0x8000, bank := 1, ramEnabled := false, ram := [] },
    irq := { ie := 0x00, iflag := 0x01 },
    timer := { cnt := 0, tima := 0, tma := 0, tac := 0 },
    ppu := Ppu.postBoot,
    ports := { joypSel := 0, sb := 0, sc := 0, sound := [] },
    params := Params.default, cycles := 0 }

end Sys2Proof.Machine
end

