-- ==== Sys2Proof/Machine/Mem.lean ====
section
/-! DEFINITION. Reading and writing one memory: a canonical list of (offset, value) pairs, where an unlisted offset reads as 0. -/

namespace Sys2Proof.Machine

/-- The value at an offset; an unlisted offset reads as 0 (DESIGN CHOICE, unsafe, log 4: `INIT_MEM` of
70_reset_and_hazards.md R604 is OPEN). -/
def Memory.read {w : Nat} (m : Memory w) (k : Nat) : BitVec w :=
  match m with
  | [] => 0
  | (k', v) :: rest => if k' = k then v else Memory.read rest k

/-- The memory without any entry for an offset. -/
def Memory.erase {w : Nat} (m : Memory w) (k : Nat) : Memory w :=
  match m with
  | [] => []
  | (k', v) :: rest => if k' = k then Memory.erase rest k else (k', v) :: Memory.erase rest k

/-- The memory with an entry put before the first entry of a larger offset. -/
def Memory.insert {w : Nat} (m : Memory w) (k : Nat) (v : BitVec w) : Memory w :=
  match m with
  | [] => [(k, v)]
  | (k', v') :: rest => if k < k' then (k, v) :: (k', v') :: rest else (k', v') :: Memory.insert rest k v

/-- The memory after a write; writing 0 removes the entry. -/
def Memory.write {w : Nat} (m : Memory w) (k : Nat) (v : BitVec w) : Memory w :=
  if v = 0 then Memory.erase m k else Memory.insert (Memory.erase m k) k v

/-- Every offset listed is below `size`, above `low`, the offsets rise strictly, and no value is 0. -/
def Memory.wfFrom {w : Nat} (m : Memory w) (low size : Nat) : Bool :=
  match m with
  | [] => true
  | (k, v) :: rest => decide (low ≤ k) && decide (k < size) && decide (v ≠ 0) && Memory.wfFrom rest (k + 1) size

/-- The canonical form of a memory of `size` cells: offsets below `size`, strictly rising, no value equal to what an unlisted
offset reads as. -/
def Memory.wf {w : Nat} (m : Memory w) (size : Nat) : Bool := Memory.wfFrom m 0 size

end Sys2Proof.Machine
end

