-- ==== Sys2Proof/Syntax.lean ====
section
/-! DEFINITION. The syntax of the instruction set: operand tables, the one inductive `Instr` (one constructor per row of
spec/opcode_table.json) and `Form`, the table's "form" column as structured data with its operands. -/

namespace Sys2Proof

/-- The seven general registers, as the operand table `r8` names them (30_encoding.md R153; 10_state.md R30). -/
inductive Reg8 where
  | b | c | d | e | h | l | a
  deriving DecidableEq, Repr

/-- The 8-bit operand table `r8` (R153): a register, or index 6, the byte in memory at HL. -/
inductive Operand8 where
  | reg (r : Reg8)
  | mhl
  deriving DecidableEq, Repr

/-- The 16-bit operand table `rp` (R154). -/
inductive Pair where
  | bc | de | hl | sp
  deriving DecidableEq, Repr

/-- The 16-bit operand table `rp2` of PUSH and POP (R155). -/
inductive StackPair where
  | bc | de | hl | af
  deriving DecidableEq, Repr

/-- The two pairs that `LD A,(rr)` and `LD (rr),A` address memory with (40_load8.md R205, R206). -/
inductive AddrPair where
  | bc | de
  deriving DecidableEq, Repr

/-- The condition table `cc` (R156). -/
inductive Cond where
  | nz | z | nc | c
  deriving DecidableEq, Repr

/-- The ALU table `alu` (R157). -/
inductive AluOp where
  | add | adc | sub | sbc | and | xor | or | cp
  deriving DecidableEq, Repr

/-- The source operand of an ALU instruction (42_alu8.md R270): a register, the byte at HL, or an immediate. -/
inductive AluSrc where
  | reg (r : Reg8)
  | mhl
  | imm (n : Byte)
  deriving DecidableEq, Repr

/-- The rotate and shift table `rot` of the CB page (R158). -/
inductive RotOp where
  | rlc | rrc | rl | rr | sla | sra | swap | srl
  deriving DecidableEq, Repr

/-- A value of the three-bit field y: a bit number of BIT, RES, SET (R158) or an index of `RST` (46_control.md R400). -/
inductive Bit3 where
  | b0 | b1 | b2 | b3 | b4 | b5 | b6 | b7
  deriving DecidableEq, Repr

/-- The eleven gaps of the first-byte table (R160). -/
inductive Gap where
  | gd3 | gdb | gdd | ge3 | ge4 | geb | gec | ged | gf4 | gfc | gfd
  deriving DecidableEq, Repr

/-- The instruction set: one constructor per row of spec/opcode_table.json, those with an immediate first, then in the
table's order (30_encoding.md R159, R161).
`M…` in a name is a memory operand, `Imm8`, `Imm16`, `Rel` an immediate byte, an immediate word, a displacement byte. -/
inductive Instr where
  | ldBcImm16 (nn : Word)
  | ldBImm8 (n : Byte)
  | ldMImm16Sp (nn : Word)
  | ldCImm8 (n : Byte)
  | stop (n : Byte)
  | ldDeImm16 (nn : Word)
  | ldDImm8 (n : Byte)
  | jrRel (e : Byte)
  | ldEImm8 (n : Byte)
  | jrNzRel (e : Byte)
  | ldHlImm16 (nn : Word)
  | ldHImm8 (n : Byte)
  | jrZRel (e : Byte)
  | ldLImm8 (n : Byte)
  | jrNcRel (e : Byte)
  | ldSpImm16 (nn : Word)
  | ldMHlImm8 (n : Byte)
  | jrCRel (e : Byte)
  | ldAImm8 (n : Byte)
  | jpNzImm16 (nn : Word)
  | jpImm16 (nn : Word)
  | callNzImm16 (nn : Word)
  | addAImm8 (n : Byte)
  | jpZImm16 (nn : Word)
  | prefixCb (c : Byte)
  | callZImm16 (nn : Word)
  | callImm16 (nn : Word)
  | adcAImm8 (n : Byte)
  | jpNcImm16 (nn : Word)
  | callNcImm16 (nn : Word)
  | subImm8 (n : Byte)
  | jpCImm16 (nn : Word)
  | callCImm16 (nn : Word)
  | sbcAImm8 (n : Byte)
  | ldhMNA (n : Byte)
  | andImm8 (n : Byte)
  | addSpRel (e : Byte)
  | ldMImm16A (nn : Word)
  | xorImm8 (n : Byte)
  | ldhAMN (n : Byte)
  | orImm8 (n : Byte)
  | ldHlSpRel (e : Byte)
  | ldAMImm16 (nn : Word)
  | cpImm8 (n : Byte)
  | nop
  | ldMBcA
  | incBc
  | incB
  | decB
  | rlca
  | addHlBc
  | ldAMBc
  | decBc
  | incC
  | decC
  | rrca
  | ldMDeA
  | incDe
  | incD
  | decD
  | rla
  | addHlDe
  | ldAMDe
  | decDe
  | incE
  | decE
  | rra
  | ldMHlIncA
  | incHl
  | incH
  | decH
  | daa
  | addHlHl
  | ldAMHlInc
  | decHl
  | incL
  | decL
  | cpl
  | ldMHlDecA
  | incSp
  | incMHl
  | decMHl
  | scf
  | addHlSp
  | ldAMHlDec
  | decSp
  | incA
  | decA
  | ccf
  | ldBB
  | ldBC
  | ldBD
  | ldBE
  | ldBH
  | ldBL
  | ldBMHl
  | ldBA
  | ldCB
  | ldCC
  | ldCD
  | ldCE
  | ldCH
  | ldCL
  | ldCMHl
  | ldCA
  | ldDB
  | ldDC
  | ldDD
  | ldDE
  | ldDH
  | ldDL
  | ldDMHl
  | ldDA
  | ldEB
  | ldEC
  | ldED
  | ldEE
  | ldEH
  | ldEL
  | ldEMHl
  | ldEA
  | ldHB
  | ldHC
  | ldHD
  | ldHE
  | ldHH
  | ldHL
  | ldHMHl
  | ldHA
  | ldLB
  | ldLC
  | ldLD
  | ldLE
  | ldLH
  | ldLL
  | ldLMHl
  | ldLA
  | ldMHlB
  | ldMHlC
  | ldMHlD
  | ldMHlE
  | ldMHlH
  | ldMHlL
  | halt
  | ldMHlA
  | ldAB
  | ldAC
  | ldAD
  | ldAE
  | ldAH
  | ldAL
  | ldAMHl
  | ldAA
  | addAB
  | addAC
  | addAD
  | addAE
  | addAH
  | addAL
  | addAMHl
  | addAA
  | adcAB
  | adcAC
  | adcAD
  | adcAE
  | adcAH
  | adcAL
  | adcAMHl
  | adcAA
  | subB
  | subC
  | subD
  | subE
  | subH
  | subL
  | subMHl
  | subA
  | sbcAB
  | sbcAC
  | sbcAD
  | sbcAE
  | sbcAH
  | sbcAL
  | sbcAMHl
  | sbcAA
  | andB
  | andC
  | andD
  | andE
  | andH
  | andL
  | andMHl
  | andA
  | xorB
  | xorC
  | xorD
  | xorE
  | xorH
  | xorL
  | xorMHl
  | xorA
  | orB
  | orC
  | orD
  | orE
  | orH
  | orL
  | orMHl
  | orA
  | cpB
  | cpC
  | cpD
  | cpE
  | cpH
  | cpL
  | cpMHl
  | cpA
  | retNz
  | popBc
  | pushBc
  | rst00
  | retZ
  | ret
  | rst08
  | retNc
  | popDe
  | illegalD3
  | pushDe
  | rst10
  | retC
  | reti
  | illegalDB
  | illegalDD
  | rst18
  | popHl
  | ldMCA
  | illegalE3
  | illegalE4
  | pushHl
  | rst20
  | jpHl
  | illegalEB
  | illegalEC
  | illegalED
  | rst28
  | popAf
  | ldAMC
  | di
  | illegalF4
  | pushAf
  | rst30
  | ldSpHl
  | ei
  | illegalFC
  | illegalFD
  | rst38
  | rlcB
  | rlcC
  | rlcD
  | rlcE
  | rlcH
  | rlcL
  | rlcMHl
  | rlcA
  | rrcB
  | rrcC
  | rrcD
  | rrcE
  | rrcH
  | rrcL
  | rrcMHl
  | rrcA
  | rlB
  | rlC
  | rlD
  | rlE
  | rlH
  | rlL
  | rlMHl
  | rlA
  | rrB
  | rrC
  | rrD
  | rrE
  | rrH
  | rrL
  | rrMHl
  | rrA
  | slaB
  | slaC
  | slaD
  | slaE
  | slaH
  | slaL
  | slaMHl
  | slaA
  | sraB
  | sraC
  | sraD
  | sraE
  | sraH
  | sraL
  | sraMHl
  | sraA
  | swapB
  | swapC
  | swapD
  | swapE
  | swapH
  | swapL
  | swapMHl
  | swapA
  | srlB
  | srlC
  | srlD
  | srlE
  | srlH
  | srlL
  | srlMHl
  | srlA
  | bit0B
  | bit0C
  | bit0D
  | bit0E
  | bit0H
  | bit0L
  | bit0MHl
  | bit0A
  | bit1B
  | bit1C
  | bit1D
  | bit1E
  | bit1H
  | bit1L
  | bit1MHl
  | bit1A
  | bit2B
  | bit2C
  | bit2D
  | bit2E
  | bit2H
  | bit2L
  | bit2MHl
  | bit2A
  | bit3B
  | bit3C
  | bit3D
  | bit3E
  | bit3H
  | bit3L
  | bit3MHl
  | bit3A
  | bit4B
  | bit4C
  | bit4D
  | bit4E
  | bit4H
  | bit4L
  | bit4MHl
  | bit4A
  | bit5B
  | bit5C
  | bit5D
  | bit5E
  | bit5H
  | bit5L
  | bit5MHl
  | bit5A
  | bit6B
  | bit6C
  | bit6D
  | bit6E
  | bit6H
  | bit6L
  | bit6MHl
  | bit6A
  | bit7B
  | bit7C
  | bit7D
  | bit7E
  | bit7H
  | bit7L
  | bit7MHl
  | bit7A
  | res0B
  | res0C
  | res0D
  | res0E
  | res0H
  | res0L
  | res0MHl
  | res0A
  | res1B
  | res1C
  | res1D
  | res1E
  | res1H
  | res1L
  | res1MHl
  | res1A
  | res2B
  | res2C
  | res2D
  | res2E
  | res2H
  | res2L
  | res2MHl
  | res2A
  | res3B
  | res3C
  | res3D
  | res3E
  | res3H
  | res3L
  | res3MHl
  | res3A
  | res4B
  | res4C
  | res4D
  | res4E
  | res4H
  | res4L
  | res4MHl
  | res4A
  | res5B
  | res5C
  | res5D
  | res5E
  | res5H
  | res5L
  | res5MHl
  | res5A
  | res6B
  | res6C
  | res6D
  | res6E
  | res6H
  | res6L
  | res6MHl
  | res6A
  | res7B
  | res7C
  | res7D
  | res7E
  | res7H
  | res7L
  | res7MHl
  | res7A
  | set0B
  | set0C
  | set0D
  | set0E
  | set0H
  | set0L
  | set0MHl
  | set0A
  | set1B
  | set1C
  | set1D
  | set1E
  | set1H
  | set1L
  | set1MHl
  | set1A
  | set2B
  | set2C
  | set2D
  | set2E
  | set2H
  | set2L
  | set2MHl
  | set2A
  | set3B
  | set3C
  | set3D
  | set3E
  | set3H
  | set3L
  | set3MHl
  | set3A
  | set4B
  | set4C
  | set4D
  | set4E
  | set4H
  | set4L
  | set4MHl
  | set4A
  | set5B
  | set5C
  | set5D
  | set5E
  | set5H
  | set5L
  | set5MHl
  | set5A
  | set6B
  | set6C
  | set6D
  | set6E
  | set6H
  | set6L
  | set6MHl
  | set6A
  | set7B
  | set7C
  | set7D
  | set7E
  | set7H
  | set7L
  | set7MHl
  | set7A
  deriving DecidableEq, Repr

/-- The instruction forms of the family files (spec/40_load8.md to 47_system.md), each with its operands: what a row of
spec/opcode_table.json says in its "form" and "fields" columns. -/
inductive Form where
  | ldRegReg (dst src : Reg8) -- R200
  | ldRegImm (dst : Reg8) (n : Byte) -- R201
  | ldRegMHl (dst : Reg8) -- R202
  | ldMHlReg (src : Reg8) -- R203
  | ldMHlImm (n : Byte) -- R204
  | ldAMPair (p : AddrPair) -- R205
  | ldMPairA (p : AddrPair) -- R206
  | ldAMImm16 (nn : Word) -- R207
  | ldMImm16A (nn : Word) -- R208
  | ldhAMN (n : Byte) -- R209
  | ldhMNA (n : Byte) -- R210
  | ldAMC -- R211
  | ldMCA -- R212
  | ldMHlIncA -- R213
  | ldMHlDecA -- R214
  | ldAMHlInc -- R215
  | ldAMHlDec -- R216
  | ldPairImm (p : Pair) (nn : Word) -- R240
  | ldMImm16Sp (nn : Word) -- R241
  | ldSpHl -- R242
  | push (p : StackPair) -- R243
  | pop (p : StackPair) -- R244
  | ldHlSpRel (e : Byte) -- R245
  | alu (op : AluOp) (src : AluSrc) -- R271, R272, R273, R274, R275, R276, R277, R278
  | incReg (r : Reg8) -- R279
  | incMHl -- R280
  | decReg (r : Reg8) -- R281
  | decMHl -- R282
  | daa -- R283
  | cpl -- R284
  | scf -- R285
  | ccf -- R286
  | addHlPair (p : Pair) -- R320
  | incPair (p : Pair) -- R321
  | decPair (p : Pair) -- R322
  | addSpRel (e : Byte) -- R323
  | rlca -- R340
  | rrca -- R341
  | rla -- R342
  | rra -- R343
  | rot (op : RotOp) (t : Operand8) -- R344, R345, R346, R347, R348, R349, R350, R351
  | bit (b : Bit3) (t : Operand8) -- R370
  | res (b : Bit3) (t : Operand8) -- R371
  | set (b : Bit3) (t : Operand8) -- R372
  | jp (nn : Word) -- R390
  | jpCond (cc : Cond) (nn : Word) -- R391
  | jpHl -- R392
  | jr (e : Byte) -- R393
  | jrCond (cc : Cond) (e : Byte) -- R394
  | call (nn : Word) -- R395
  | callCond (cc : Cond) (nn : Word) -- R396
  | ret -- R397
  | retCond (cc : Cond) -- R398
  | reti -- R399
  | rst (t : Bit3) -- R400
  | nop -- R420
  | halt -- R421
  | stop (n : Byte) -- R422
  | di -- R423
  | ei -- R424
  | illegal (g : Gap) -- R425
  | prefixCb (c : Byte) -- R426
  deriving DecidableEq, Repr

/-- The form and operands of each instruction, read off its row of spec/opcode_table.json. -/
def Instr.form : Instr → Form
  | .nop => .nop
  | .ldBcImm16 nn => .ldPairImm .bc nn
  | .ldMBcA => .ldMPairA .bc
  | .incBc => .incPair .bc
  | .incB => .incReg .b
  | .decB => .decReg .b
  | .ldBImm8 n => .ldRegImm .b n
  | .rlca => .rlca
  | .ldMImm16Sp nn => .ldMImm16Sp nn
  | .addHlBc => .addHlPair .bc
  | .ldAMBc => .ldAMPair .bc
  | .decBc => .decPair .bc
  | .incC => .incReg .c
  | .decC => .decReg .c
  | .ldCImm8 n => .ldRegImm .c n
  | .rrca => .rrca
  | .stop n => .stop n
  | .ldDeImm16 nn => .ldPairImm .de nn
  | .ldMDeA => .ldMPairA .de
  | .incDe => .incPair .de
  | .incD => .incReg .d
  | .decD => .decReg .d
  | .ldDImm8 n => .ldRegImm .d n
  | .rla => .rla
  | .jrRel e => .jr e
  | .addHlDe => .addHlPair .de
  | .ldAMDe => .ldAMPair .de
  | .decDe => .decPair .de
  | .incE => .incReg .e
  | .decE => .decReg .e
  | .ldEImm8 n => .ldRegImm .e n
  | .rra => .rra
  | .jrNzRel e => .jrCond .nz e
  | .ldHlImm16 nn => .ldPairImm .hl nn
  | .ldMHlIncA => .ldMHlIncA
  | .incHl => .incPair .hl
  | .incH => .incReg .h
  | .decH => .decReg .h
  | .ldHImm8 n => .ldRegImm .h n
  | .daa => .daa
  | .jrZRel e => .jrCond .z e
  | .addHlHl => .addHlPair .hl
  | .ldAMHlInc => .ldAMHlInc
  | .decHl => .decPair .hl
  | .incL => .incReg .l
  | .decL => .decReg .l
  | .ldLImm8 n => .ldRegImm .l n
  | .cpl => .cpl
  | .jrNcRel e => .jrCond .nc e
  | .ldSpImm16 nn => .ldPairImm .sp nn
  | .ldMHlDecA => .ldMHlDecA
  | .incSp => .incPair .sp
  | .incMHl => .incMHl
  | .decMHl => .decMHl
  | .ldMHlImm8 n => .ldMHlImm n
  | .scf => .scf
  | .jrCRel e => .jrCond .c e
  | .addHlSp => .addHlPair .sp
  | .ldAMHlDec => .ldAMHlDec
  | .decSp => .decPair .sp
  | .incA => .incReg .a
  | .decA => .decReg .a
  | .ldAImm8 n => .ldRegImm .a n
  | .ccf => .ccf
  | .ldBB => .ldRegReg .b .b
  | .ldBC => .ldRegReg .b .c
  | .ldBD => .ldRegReg .b .d
  | .ldBE => .ldRegReg .b .e
  | .ldBH => .ldRegReg .b .h
  | .ldBL => .ldRegReg .b .l
  | .ldBMHl => .ldRegMHl .b
  | .ldBA => .ldRegReg .b .a
  | .ldCB => .ldRegReg .c .b
  | .ldCC => .ldRegReg .c .c
  | .ldCD => .ldRegReg .c .d
  | .ldCE => .ldRegReg .c .e
  | .ldCH => .ldRegReg .c .h
  | .ldCL => .ldRegReg .c .l
  | .ldCMHl => .ldRegMHl .c
  | .ldCA => .ldRegReg .c .a
  | .ldDB => .ldRegReg .d .b
  | .ldDC => .ldRegReg .d .c
  | .ldDD => .ldRegReg .d .d
  | .ldDE => .ldRegReg .d .e
  | .ldDH => .ldRegReg .d .h
  | .ldDL => .ldRegReg .d .l
  | .ldDMHl => .ldRegMHl .d
  | .ldDA => .ldRegReg .d .a
  | .ldEB => .ldRegReg .e .b
  | .ldEC => .ldRegReg .e .c
  | .ldED => .ldRegReg .e .d
  | .ldEE => .ldRegReg .e .e
  | .ldEH => .ldRegReg .e .h
  | .ldEL => .ldRegReg .e .l
  | .ldEMHl => .ldRegMHl .e
  | .ldEA => .ldRegReg .e .a
  | .ldHB => .ldRegReg .h .b
  | .ldHC => .ldRegReg .h .c
  | .ldHD => .ldRegReg .h .d
  | .ldHE => .ldRegReg .h .e
  | .ldHH => .ldRegReg .h .h
  | .ldHL => .ldRegReg .h .l
  | .ldHMHl => .ldRegMHl .h
  | .ldHA => .ldRegReg .h .a
  | .ldLB => .ldRegReg .l .b
  | .ldLC => .ldRegReg .l .c
  | .ldLD => .ldRegReg .l .d
  | .ldLE => .ldRegReg .l .e
  | .ldLH => .ldRegReg .l .h
  | .ldLL => .ldRegReg .l .l
  | .ldLMHl => .ldRegMHl .l
  | .ldLA => .ldRegReg .l .a
  | .ldMHlB => .ldMHlReg .b
  | .ldMHlC => .ldMHlReg .c
  | .ldMHlD => .ldMHlReg .d
  | .ldMHlE => .ldMHlReg .e
  | .ldMHlH => .ldMHlReg .h
  | .ldMHlL => .ldMHlReg .l
  | .halt => .halt
  | .ldMHlA => .ldMHlReg .a
  | .ldAB => .ldRegReg .a .b
  | .ldAC => .ldRegReg .a .c
  | .ldAD => .ldRegReg .a .d
  | .ldAE => .ldRegReg .a .e
  | .ldAH => .ldRegReg .a .h
  | .ldAL => .ldRegReg .a .l
  | .ldAMHl => .ldRegMHl .a
  | .ldAA => .ldRegReg .a .a
  | .addAB => .alu .add (.reg .b)
  | .addAC => .alu .add (.reg .c)
  | .addAD => .alu .add (.reg .d)
  | .addAE => .alu .add (.reg .e)
  | .addAH => .alu .add (.reg .h)
  | .addAL => .alu .add (.reg .l)
  | .addAMHl => .alu .add .mhl
  | .addAA => .alu .add (.reg .a)
  | .adcAB => .alu .adc (.reg .b)
  | .adcAC => .alu .adc (.reg .c)
  | .adcAD => .alu .adc (.reg .d)
  | .adcAE => .alu .adc (.reg .e)
  | .adcAH => .alu .adc (.reg .h)
  | .adcAL => .alu .adc (.reg .l)
  | .adcAMHl => .alu .adc .mhl
  | .adcAA => .alu .adc (.reg .a)
  | .subB => .alu .sub (.reg .b)
  | .subC => .alu .sub (.reg .c)
  | .subD => .alu .sub (.reg .d)
  | .subE => .alu .sub (.reg .e)
  | .subH => .alu .sub (.reg .h)
  | .subL => .alu .sub (.reg .l)
  | .subMHl => .alu .sub .mhl
  | .subA => .alu .sub (.reg .a)
  | .sbcAB => .alu .sbc (.reg .b)
  | .sbcAC => .alu .sbc (.reg .c)
  | .sbcAD => .alu .sbc (.reg .d)
  | .sbcAE => .alu .sbc (.reg .e)
  | .sbcAH => .alu .sbc (.reg .h)
  | .sbcAL => .alu .sbc (.reg .l)
  | .sbcAMHl => .alu .sbc .mhl
  | .sbcAA => .alu .sbc (.reg .a)
  | .andB => .alu .and (.reg .b)
  | .andC => .alu .and (.reg .c)
  | .andD => .alu .and (.reg .d)
  | .andE => .alu .and (.reg .e)
  | .andH => .alu .and (.reg .h)
  | .andL => .alu .and (.reg .l)
  | .andMHl => .alu .and .mhl
  | .andA => .alu .and (.reg .a)
  | .xorB => .alu .xor (.reg .b)
  | .xorC => .alu .xor (.reg .c)
  | .xorD => .alu .xor (.reg .d)
  | .xorE => .alu .xor (.reg .e)
  | .xorH => .alu .xor (.reg .h)
  | .xorL => .alu .xor (.reg .l)
  | .xorMHl => .alu .xor .mhl
  | .xorA => .alu .xor (.reg .a)
  | .orB => .alu .or (.reg .b)
  | .orC => .alu .or (.reg .c)
  | .orD => .alu .or (.reg .d)
  | .orE => .alu .or (.reg .e)
  | .orH => .alu .or (.reg .h)
  | .orL => .alu .or (.reg .l)
  | .orMHl => .alu .or .mhl
  | .orA => .alu .or (.reg .a)
  | .cpB => .alu .cp (.reg .b)
  | .cpC => .alu .cp (.reg .c)
  | .cpD => .alu .cp (.reg .d)
  | .cpE => .alu .cp (.reg .e)
  | .cpH => .alu .cp (.reg .h)
  | .cpL => .alu .cp (.reg .l)
  | .cpMHl => .alu .cp .mhl
  | .cpA => .alu .cp (.reg .a)
  | .retNz => .retCond .nz
  | .popBc => .pop .bc
  | .jpNzImm16 nn => .jpCond .nz nn
  | .jpImm16 nn => .jp nn
  | .callNzImm16 nn => .callCond .nz nn
  | .pushBc => .push .bc
  | .addAImm8 n => .alu .add (.imm n)
  | .rst00 => .rst .b0
  | .retZ => .retCond .z
  | .ret => .ret
  | .jpZImm16 nn => .jpCond .z nn
  | .prefixCb c => .prefixCb c
  | .callZImm16 nn => .callCond .z nn
  | .callImm16 nn => .call nn
  | .adcAImm8 n => .alu .adc (.imm n)
  | .rst08 => .rst .b1
  | .retNc => .retCond .nc
  | .popDe => .pop .de
  | .jpNcImm16 nn => .jpCond .nc nn
  | .illegalD3 => .illegal .gd3
  | .callNcImm16 nn => .callCond .nc nn
  | .pushDe => .push .de
  | .subImm8 n => .alu .sub (.imm n)
  | .rst10 => .rst .b2
  | .retC => .retCond .c
  | .reti => .reti
  | .jpCImm16 nn => .jpCond .c nn
  | .illegalDB => .illegal .gdb
  | .callCImm16 nn => .callCond .c nn
  | .illegalDD => .illegal .gdd
  | .sbcAImm8 n => .alu .sbc (.imm n)
  | .rst18 => .rst .b3
  | .ldhMNA n => .ldhMNA n
  | .popHl => .pop .hl
  | .ldMCA => .ldMCA
  | .illegalE3 => .illegal .ge3
  | .illegalE4 => .illegal .ge4
  | .pushHl => .push .hl
  | .andImm8 n => .alu .and (.imm n)
  | .rst20 => .rst .b4
  | .addSpRel e => .addSpRel e
  | .jpHl => .jpHl
  | .ldMImm16A nn => .ldMImm16A nn
  | .illegalEB => .illegal .geb
  | .illegalEC => .illegal .gec
  | .illegalED => .illegal .ged
  | .xorImm8 n => .alu .xor (.imm n)
  | .rst28 => .rst .b5
  | .ldhAMN n => .ldhAMN n
  | .popAf => .pop .af
  | .ldAMC => .ldAMC
  | .di => .di
  | .illegalF4 => .illegal .gf4
  | .pushAf => .push .af
  | .orImm8 n => .alu .or (.imm n)
  | .rst30 => .rst .b6
  | .ldHlSpRel e => .ldHlSpRel e
  | .ldSpHl => .ldSpHl
  | .ldAMImm16 nn => .ldAMImm16 nn
  | .ei => .ei
  | .illegalFC => .illegal .gfc
  | .illegalFD => .illegal .gfd
  | .cpImm8 n => .alu .cp (.imm n)
  | .rst38 => .rst .b7
  | .rlcB => .rot .rlc (.reg .b)
  | .rlcC => .rot .rlc (.reg .c)
  | .rlcD => .rot .rlc (.reg .d)
  | .rlcE => .rot .rlc (.reg .e)
  | .rlcH => .rot .rlc (.reg .h)
  | .rlcL => .rot .rlc (.reg .l)
  | .rlcMHl => .rot .rlc .mhl
  | .rlcA => .rot .rlc (.reg .a)
  | .rrcB => .rot .rrc (.reg .b)
  | .rrcC => .rot .rrc (.reg .c)
  | .rrcD => .rot .rrc (.reg .d)
  | .rrcE => .rot .rrc (.reg .e)
  | .rrcH => .rot .rrc (.reg .h)
  | .rrcL => .rot .rrc (.reg .l)
  | .rrcMHl => .rot .rrc .mhl
  | .rrcA => .rot .rrc (.reg .a)
  | .rlB => .rot .rl (.reg .b)
  | .rlC => .rot .rl (.reg .c)
  | .rlD => .rot .rl (.reg .d)
  | .rlE => .rot .rl (.reg .e)
  | .rlH => .rot .rl (.reg .h)
  | .rlL => .rot .rl (.reg .l)
  | .rlMHl => .rot .rl .mhl
  | .rlA => .rot .rl (.reg .a)
  | .rrB => .rot .rr (.reg .b)
  | .rrC => .rot .rr (.reg .c)
  | .rrD => .rot .rr (.reg .d)
  | .rrE => .rot .rr (.reg .e)
  | .rrH => .rot .rr (.reg .h)
  | .rrL => .rot .rr (.reg .l)
  | .rrMHl => .rot .rr .mhl
  | .rrA => .rot .rr (.reg .a)
  | .slaB => .rot .sla (.reg .b)
  | .slaC => .rot .sla (.reg .c)
  | .slaD => .rot .sla (.reg .d)
  | .slaE => .rot .sla (.reg .e)
  | .slaH => .rot .sla (.reg .h)
  | .slaL => .rot .sla (.reg .l)
  | .slaMHl => .rot .sla .mhl
  | .slaA => .rot .sla (.reg .a)
  | .sraB => .rot .sra (.reg .b)
  | .sraC => .rot .sra (.reg .c)
  | .sraD => .rot .sra (.reg .d)
  | .sraE => .rot .sra (.reg .e)
  | .sraH => .rot .sra (.reg .h)
  | .sraL => .rot .sra (.reg .l)
  | .sraMHl => .rot .sra .mhl
  | .sraA => .rot .sra (.reg .a)
  | .swapB => .rot .swap (.reg .b)
  | .swapC => .rot .swap (.reg .c)
  | .swapD => .rot .swap (.reg .d)
  | .swapE => .rot .swap (.reg .e)
  | .swapH => .rot .swap (.reg .h)
  | .swapL => .rot .swap (.reg .l)
  | .swapMHl => .rot .swap .mhl
  | .swapA => .rot .swap (.reg .a)
  | .srlB => .rot .srl (.reg .b)
  | .srlC => .rot .srl (.reg .c)
  | .srlD => .rot .srl (.reg .d)
  | .srlE => .rot .srl (.reg .e)
  | .srlH => .rot .srl (.reg .h)
  | .srlL => .rot .srl (.reg .l)
  | .srlMHl => .rot .srl .mhl
  | .srlA => .rot .srl (.reg .a)
  | .bit0B => .bit .b0 (.reg .b)
  | .bit0C => .bit .b0 (.reg .c)
  | .bit0D => .bit .b0 (.reg .d)
  | .bit0E => .bit .b0 (.reg .e)
  | .bit0H => .bit .b0 (.reg .h)
  | .bit0L => .bit .b0 (.reg .l)
  | .bit0MHl => .bit .b0 .mhl
  | .bit0A => .bit .b0 (.reg .a)
  | .bit1B => .bit .b1 (.reg .b)
  | .bit1C => .bit .b1 (.reg .c)
  | .bit1D => .bit .b1 (.reg .d)
  | .bit1E => .bit .b1 (.reg .e)
  | .bit1H => .bit .b1 (.reg .h)
  | .bit1L => .bit .b1 (.reg .l)
  | .bit1MHl => .bit .b1 .mhl
  | .bit1A => .bit .b1 (.reg .a)
  | .bit2B => .bit .b2 (.reg .b)
  | .bit2C => .bit .b2 (.reg .c)
  | .bit2D => .bit .b2 (.reg .d)
  | .bit2E => .bit .b2 (.reg .e)
  | .bit2H => .bit .b2 (.reg .h)
  | .bit2L => .bit .b2 (.reg .l)
  | .bit2MHl => .bit .b2 .mhl
  | .bit2A => .bit .b2 (.reg .a)
  | .bit3B => .bit .b3 (.reg .b)
  | .bit3C => .bit .b3 (.reg .c)
  | .bit3D => .bit .b3 (.reg .d)
  | .bit3E => .bit .b3 (.reg .e)
  | .bit3H => .bit .b3 (.reg .h)
  | .bit3L => .bit .b3 (.reg .l)
  | .bit3MHl => .bit .b3 .mhl
  | .bit3A => .bit .b3 (.reg .a)
  | .bit4B => .bit .b4 (.reg .b)
  | .bit4C => .bit .b4 (.reg .c)
  | .bit4D => .bit .b4 (.reg .d)
  | .bit4E => .bit .b4 (.reg .e)
  | .bit4H => .bit .b4 (.reg .h)
  | .bit4L => .bit .b4 (.reg .l)
  | .bit4MHl => .bit .b4 .mhl
  | .bit4A => .bit .b4 (.reg .a)
  | .bit5B => .bit .b5 (.reg .b)
  | .bit5C => .bit .b5 (.reg .c)
  | .bit5D => .bit .b5 (.reg .d)
  | .bit5E => .bit .b5 (.reg .e)
  | .bit5H => .bit .b5 (.reg .h)
  | .bit5L => .bit .b5 (.reg .l)
  | .bit5MHl => .bit .b5 .mhl
  | .bit5A => .bit .b5 (.reg .a)
  | .bit6B => .bit .b6 (.reg .b)
  | .bit6C => .bit .b6 (.reg .c)
  | .bit6D => .bit .b6 (.reg .d)
  | .bit6E => .bit .b6 (.reg .e)
  | .bit6H => .bit .b6 (.reg .h)
  | .bit6L => .bit .b6 (.reg .l)
  | .bit6MHl => .bit .b6 .mhl
  | .bit6A => .bit .b6 (.reg .a)
  | .bit7B => .bit .b7 (.reg .b)
  | .bit7C => .bit .b7 (.reg .c)
  | .bit7D => .bit .b7 (.reg .d)
  | .bit7E => .bit .b7 (.reg .e)
  | .bit7H => .bit .b7 (.reg .h)
  | .bit7L => .bit .b7 (.reg .l)
  | .bit7MHl => .bit .b7 .mhl
  | .bit7A => .bit .b7 (.reg .a)
  | .res0B => .res .b0 (.reg .b)
  | .res0C => .res .b0 (.reg .c)
  | .res0D => .res .b0 (.reg .d)
  | .res0E => .res .b0 (.reg .e)
  | .res0H => .res .b0 (.reg .h)
  | .res0L => .res .b0 (.reg .l)
  | .res0MHl => .res .b0 .mhl
  | .res0A => .res .b0 (.reg .a)
  | .res1B => .res .b1 (.reg .b)
  | .res1C => .res .b1 (.reg .c)
  | .res1D => .res .b1 (.reg .d)
  | .res1E => .res .b1 (.reg .e)
  | .res1H => .res .b1 (.reg .h)
  | .res1L => .res .b1 (.reg .l)
  | .res1MHl => .res .b1 .mhl
  | .res1A => .res .b1 (.reg .a)
  | .res2B => .res .b2 (.reg .b)
  | .res2C => .res .b2 (.reg .c)
  | .res2D => .res .b2 (.reg .d)
  | .res2E => .res .b2 (.reg .e)
  | .res2H => .res .b2 (.reg .h)
  | .res2L => .res .b2 (.reg .l)
  | .res2MHl => .res .b2 .mhl
  | .res2A => .res .b2 (.reg .a)
  | .res3B => .res .b3 (.reg .b)
  | .res3C => .res .b3 (.reg .c)
  | .res3D => .res .b3 (.reg .d)
  | .res3E => .res .b3 (.reg .e)
  | .res3H => .res .b3 (.reg .h)
  | .res3L => .res .b3 (.reg .l)
  | .res3MHl => .res .b3 .mhl
  | .res3A => .res .b3 (.reg .a)
  | .res4B => .res .b4 (.reg .b)
  | .res4C => .res .b4 (.reg .c)
  | .res4D => .res .b4 (.reg .d)
  | .res4E => .res .b4 (.reg .e)
  | .res4H => .res .b4 (.reg .h)
  | .res4L => .res .b4 (.reg .l)
  | .res4MHl => .res .b4 .mhl
  | .res4A => .res .b4 (.reg .a)
  | .res5B => .res .b5 (.reg .b)
  | .res5C => .res .b5 (.reg .c)
  | .res5D => .res .b5 (.reg .d)
  | .res5E => .res .b5 (.reg .e)
  | .res5H => .res .b5 (.reg .h)
  | .res5L => .res .b5 (.reg .l)
  | .res5MHl => .res .b5 .mhl
  | .res5A => .res .b5 (.reg .a)
  | .res6B => .res .b6 (.reg .b)
  | .res6C => .res .b6 (.reg .c)
  | .res6D => .res .b6 (.reg .d)
  | .res6E => .res .b6 (.reg .e)
  | .res6H => .res .b6 (.reg .h)
  | .res6L => .res .b6 (.reg .l)
  | .res6MHl => .res .b6 .mhl
  | .res6A => .res .b6 (.reg .a)
  | .res7B => .res .b7 (.reg .b)
  | .res7C => .res .b7 (.reg .c)
  | .res7D => .res .b7 (.reg .d)
  | .res7E => .res .b7 (.reg .e)
  | .res7H => .res .b7 (.reg .h)
  | .res7L => .res .b7 (.reg .l)
  | .res7MHl => .res .b7 .mhl
  | .res7A => .res .b7 (.reg .a)
  | .set0B => .set .b0 (.reg .b)
  | .set0C => .set .b0 (.reg .c)
  | .set0D => .set .b0 (.reg .d)
  | .set0E => .set .b0 (.reg .e)
  | .set0H => .set .b0 (.reg .h)
  | .set0L => .set .b0 (.reg .l)
  | .set0MHl => .set .b0 .mhl
  | .set0A => .set .b0 (.reg .a)
  | .set1B => .set .b1 (.reg .b)
  | .set1C => .set .b1 (.reg .c)
  | .set1D => .set .b1 (.reg .d)
  | .set1E => .set .b1 (.reg .e)
  | .set1H => .set .b1 (.reg .h)
  | .set1L => .set .b1 (.reg .l)
  | .set1MHl => .set .b1 .mhl
  | .set1A => .set .b1 (.reg .a)
  | .set2B => .set .b2 (.reg .b)
  | .set2C => .set .b2 (.reg .c)
  | .set2D => .set .b2 (.reg .d)
  | .set2E => .set .b2 (.reg .e)
  | .set2H => .set .b2 (.reg .h)
  | .set2L => .set .b2 (.reg .l)
  | .set2MHl => .set .b2 .mhl
  | .set2A => .set .b2 (.reg .a)
  | .set3B => .set .b3 (.reg .b)
  | .set3C => .set .b3 (.reg .c)
  | .set3D => .set .b3 (.reg .d)
  | .set3E => .set .b3 (.reg .e)
  | .set3H => .set .b3 (.reg .h)
  | .set3L => .set .b3 (.reg .l)
  | .set3MHl => .set .b3 .mhl
  | .set3A => .set .b3 (.reg .a)
  | .set4B => .set .b4 (.reg .b)
  | .set4C => .set .b4 (.reg .c)
  | .set4D => .set .b4 (.reg .d)
  | .set4E => .set .b4 (.reg .e)
  | .set4H => .set .b4 (.reg .h)
  | .set4L => .set .b4 (.reg .l)
  | .set4MHl => .set .b4 .mhl
  | .set4A => .set .b4 (.reg .a)
  | .set5B => .set .b5 (.reg .b)
  | .set5C => .set .b5 (.reg .c)
  | .set5D => .set .b5 (.reg .d)
  | .set5E => .set .b5 (.reg .e)
  | .set5H => .set .b5 (.reg .h)
  | .set5L => .set .b5 (.reg .l)
  | .set5MHl => .set .b5 .mhl
  | .set5A => .set .b5 (.reg .a)
  | .set6B => .set .b6 (.reg .b)
  | .set6C => .set .b6 (.reg .c)
  | .set6D => .set .b6 (.reg .d)
  | .set6E => .set .b6 (.reg .e)
  | .set6H => .set .b6 (.reg .h)
  | .set6L => .set .b6 (.reg .l)
  | .set6MHl => .set .b6 .mhl
  | .set6A => .set .b6 (.reg .a)
  | .set7B => .set .b7 (.reg .b)
  | .set7C => .set .b7 (.reg .c)
  | .set7D => .set .b7 (.reg .d)
  | .set7E => .set .b7 (.reg .e)
  | .set7H => .set .b7 (.reg .h)
  | .set7L => .set .b7 (.reg .l)
  | .set7MHl => .set .b7 .mhl
  | .set7A => .set .b7 (.reg .a)

/-- The instruction of a form: the inverse of `Instr.form` (`Laws.form_instr`, `Laws.instr_form`). -/
def Form.instr : Form → Instr
  | .ldRegReg .b .b => .ldBB
  | .ldRegReg .b .c => .ldBC
  | .ldRegReg .b .d => .ldBD
  | .ldRegReg .b .e => .ldBE
  | .ldRegReg .b .h => .ldBH
  | .ldRegReg .b .l => .ldBL
  | .ldRegReg .b .a => .ldBA
  | .ldRegReg .c .b => .ldCB
  | .ldRegReg .c .c => .ldCC
  | .ldRegReg .c .d => .ldCD
  | .ldRegReg .c .e => .ldCE
  | .ldRegReg .c .h => .ldCH
  | .ldRegReg .c .l => .ldCL
  | .ldRegReg .c .a => .ldCA
  | .ldRegReg .d .b => .ldDB
  | .ldRegReg .d .c => .ldDC
  | .ldRegReg .d .d => .ldDD
  | .ldRegReg .d .e => .ldDE
  | .ldRegReg .d .h => .ldDH
  | .ldRegReg .d .l => .ldDL
  | .ldRegReg .d .a => .ldDA
  | .ldRegReg .e .b => .ldEB
  | .ldRegReg .e .c => .ldEC
  | .ldRegReg .e .d => .ldED
  | .ldRegReg .e .e => .ldEE
  | .ldRegReg .e .h => .ldEH
  | .ldRegReg .e .l => .ldEL
  | .ldRegReg .e .a => .ldEA
  | .ldRegReg .h .b => .ldHB
  | .ldRegReg .h .c => .ldHC
  | .ldRegReg .h .d => .ldHD
  | .ldRegReg .h .e => .ldHE
  | .ldRegReg .h .h => .ldHH
  | .ldRegReg .h .l => .ldHL
  | .ldRegReg .h .a => .ldHA
  | .ldRegReg .l .b => .ldLB
  | .ldRegReg .l .c => .ldLC
  | .ldRegReg .l .d => .ldLD
  | .ldRegReg .l .e => .ldLE
  | .ldRegReg .l .h => .ldLH
  | .ldRegReg .l .l => .ldLL
  | .ldRegReg .l .a => .ldLA
  | .ldRegReg .a .b => .ldAB
  | .ldRegReg .a .c => .ldAC
  | .ldRegReg .a .d => .ldAD
  | .ldRegReg .a .e => .ldAE
  | .ldRegReg .a .h => .ldAH
  | .ldRegReg .a .l => .ldAL
  | .ldRegReg .a .a => .ldAA
  | .ldRegImm .b n => .ldBImm8 n
  | .ldRegImm .c n => .ldCImm8 n
  | .ldRegImm .d n => .ldDImm8 n
  | .ldRegImm .e n => .ldEImm8 n
  | .ldRegImm .h n => .ldHImm8 n
  | .ldRegImm .l n => .ldLImm8 n
  | .ldRegImm .a n => .ldAImm8 n
  | .ldRegMHl .b => .ldBMHl
  | .ldRegMHl .c => .ldCMHl
  | .ldRegMHl .d => .ldDMHl
  | .ldRegMHl .e => .ldEMHl
  | .ldRegMHl .h => .ldHMHl
  | .ldRegMHl .l => .ldLMHl
  | .ldRegMHl .a => .ldAMHl
  | .ldMHlReg .b => .ldMHlB
  | .ldMHlReg .c => .ldMHlC
  | .ldMHlReg .d => .ldMHlD
  | .ldMHlReg .e => .ldMHlE
  | .ldMHlReg .h => .ldMHlH
  | .ldMHlReg .l => .ldMHlL
  | .ldMHlReg .a => .ldMHlA
  | .ldMHlImm n => .ldMHlImm8 n
  | .ldAMPair .bc => .ldAMBc
  | .ldAMPair .de => .ldAMDe
  | .ldMPairA .bc => .ldMBcA
  | .ldMPairA .de => .ldMDeA
  | .ldAMImm16 nn => .ldAMImm16 nn
  | .ldMImm16A nn => .ldMImm16A nn
  | .ldhAMN n => .ldhAMN n
  | .ldhMNA n => .ldhMNA n
  | .ldAMC => .ldAMC
  | .ldMCA => .ldMCA
  | .ldMHlIncA => .ldMHlIncA
  | .ldMHlDecA => .ldMHlDecA
  | .ldAMHlInc => .ldAMHlInc
  | .ldAMHlDec => .ldAMHlDec
  | .ldPairImm .bc nn => .ldBcImm16 nn
  | .ldPairImm .de nn => .ldDeImm16 nn
  | .ldPairImm .hl nn => .ldHlImm16 nn
  | .ldPairImm .sp nn => .ldSpImm16 nn
  | .ldMImm16Sp nn => .ldMImm16Sp nn
  | .ldSpHl => .ldSpHl
  | .push .bc => .pushBc
  | .push .de => .pushDe
  | .push .hl => .pushHl
  | .push .af => .pushAf
  | .pop .bc => .popBc
  | .pop .de => .popDe
  | .pop .hl => .popHl
  | .pop .af => .popAf
  | .ldHlSpRel e => .ldHlSpRel e
  | .alu .add (.reg .b) => .addAB
  | .alu .add (.reg .c) => .addAC
  | .alu .add (.reg .d) => .addAD
  | .alu .add (.reg .e) => .addAE
  | .alu .add (.reg .h) => .addAH
  | .alu .add (.reg .l) => .addAL
  | .alu .add .mhl => .addAMHl
  | .alu .add (.reg .a) => .addAA
  | .alu .adc (.reg .b) => .adcAB
  | .alu .adc (.reg .c) => .adcAC
  | .alu .adc (.reg .d) => .adcAD
  | .alu .adc (.reg .e) => .adcAE
  | .alu .adc (.reg .h) => .adcAH
  | .alu .adc (.reg .l) => .adcAL
  | .alu .adc .mhl => .adcAMHl
  | .alu .adc (.reg .a) => .adcAA
  | .alu .sub (.reg .b) => .subB
  | .alu .sub (.reg .c) => .subC
  | .alu .sub (.reg .d) => .subD
  | .alu .sub (.reg .e) => .subE
  | .alu .sub (.reg .h) => .subH
  | .alu .sub (.reg .l) => .subL
  | .alu .sub .mhl => .subMHl
  | .alu .sub (.reg .a) => .subA
  | .alu .sbc (.reg .b) => .sbcAB
  | .alu .sbc (.reg .c) => .sbcAC
  | .alu .sbc (.reg .d) => .sbcAD
  | .alu .sbc (.reg .e) => .sbcAE
  | .alu .sbc (.reg .h) => .sbcAH
  | .alu .sbc (.reg .l) => .sbcAL
  | .alu .sbc .mhl => .sbcAMHl
  | .alu .sbc (.reg .a) => .sbcAA
  | .alu .and (.reg .b) => .andB
  | .alu .and (.reg .c) => .andC
  | .alu .and (.reg .d) => .andD
  | .alu .and (.reg .e) => .andE
  | .alu .and (.reg .h) => .andH
  | .alu .and (.reg .l) => .andL
  | .alu .and .mhl => .andMHl
  | .alu .and (.reg .a) => .andA
  | .alu .xor (.reg .b) => .xorB
  | .alu .xor (.reg .c) => .xorC
  | .alu .xor (.reg .d) => .xorD
  | .alu .xor (.reg .e) => .xorE
  | .alu .xor (.reg .h) => .xorH
  | .alu .xor (.reg .l) => .xorL
  | .alu .xor .mhl => .xorMHl
  | .alu .xor (.reg .a) => .xorA
  | .alu .or (.reg .b) => .orB
  | .alu .or (.reg .c) => .orC
  | .alu .or (.reg .d) => .orD
  | .alu .or (.reg .e) => .orE
  | .alu .or (.reg .h) => .orH
  | .alu .or (.reg .l) => .orL
  | .alu .or .mhl => .orMHl
  | .alu .or (.reg .a) => .orA
  | .alu .cp (.reg .b) => .cpB
  | .alu .cp (.reg .c) => .cpC
  | .alu .cp (.reg .d) => .cpD
  | .alu .cp (.reg .e) => .cpE
  | .alu .cp (.reg .h) => .cpH
  | .alu .cp (.reg .l) => .cpL
  | .alu .cp .mhl => .cpMHl
  | .alu .cp (.reg .a) => .cpA
  | .alu .add (.imm n) => .addAImm8 n
  | .alu .adc (.imm n) => .adcAImm8 n
  | .alu .sub (.imm n) => .subImm8 n
  | .alu .sbc (.imm n) => .sbcAImm8 n
  | .alu .and (.imm n) => .andImm8 n
  | .alu .xor (.imm n) => .xorImm8 n
  | .alu .or (.imm n) => .orImm8 n
  | .alu .cp (.imm n) => .cpImm8 n
  | .incReg .b => .incB
  | .incReg .c => .incC
  | .incReg .d => .incD
  | .incReg .e => .incE
  | .incReg .h => .incH
  | .incReg .l => .incL
  | .incReg .a => .incA
  | .incMHl => .incMHl
  | .decReg .b => .decB
  | .decReg .c => .decC
  | .decReg .d => .decD
  | .decReg .e => .decE
  | .decReg .h => .decH
  | .decReg .l => .decL
  | .decReg .a => .decA
  | .decMHl => .decMHl
  | .daa => .daa
  | .cpl => .cpl
  | .scf => .scf
  | .ccf => .ccf
  | .addHlPair .bc => .addHlBc
  | .addHlPair .de => .addHlDe
  | .addHlPair .hl => .addHlHl
  | .addHlPair .sp => .addHlSp
  | .incPair .bc => .incBc
  | .incPair .de => .incDe
  | .incPair .hl => .incHl
  | .incPair .sp => .incSp
  | .decPair .bc => .decBc
  | .decPair .de => .decDe
  | .decPair .hl => .decHl
  | .decPair .sp => .decSp
  | .addSpRel e => .addSpRel e
  | .rlca => .rlca
  | .rrca => .rrca
  | .rla => .rla
  | .rra => .rra
  | .rot .rlc (.reg .b) => .rlcB
  | .rot .rlc (.reg .c) => .rlcC
  | .rot .rlc (.reg .d) => .rlcD
  | .rot .rlc (.reg .e) => .rlcE
  | .rot .rlc (.reg .h) => .rlcH
  | .rot .rlc (.reg .l) => .rlcL
  | .rot .rlc .mhl => .rlcMHl
  | .rot .rlc (.reg .a) => .rlcA
  | .rot .rrc (.reg .b) => .rrcB
  | .rot .rrc (.reg .c) => .rrcC
  | .rot .rrc (.reg .d) => .rrcD
  | .rot .rrc (.reg .e) => .rrcE
  | .rot .rrc (.reg .h) => .rrcH
  | .rot .rrc (.reg .l) => .rrcL
  | .rot .rrc .mhl => .rrcMHl
  | .rot .rrc (.reg .a) => .rrcA
  | .rot .rl (.reg .b) => .rlB
  | .rot .rl (.reg .c) => .rlC
  | .rot .rl (.reg .d) => .rlD
  | .rot .rl (.reg .e) => .rlE
  | .rot .rl (.reg .h) => .rlH
  | .rot .rl (.reg .l) => .rlL
  | .rot .rl .mhl => .rlMHl
  | .rot .rl (.reg .a) => .rlA
  | .rot .rr (.reg .b) => .rrB
  | .rot .rr (.reg .c) => .rrC
  | .rot .rr (.reg .d) => .rrD
  | .rot .rr (.reg .e) => .rrE
  | .rot .rr (.reg .h) => .rrH
  | .rot .rr (.reg .l) => .rrL
  | .rot .rr .mhl => .rrMHl
  | .rot .rr (.reg .a) => .rrA
  | .rot .sla (.reg .b) => .slaB
  | .rot .sla (.reg .c) => .slaC
  | .rot .sla (.reg .d) => .slaD
  | .rot .sla (.reg .e) => .slaE
  | .rot .sla (.reg .h) => .slaH
  | .rot .sla (.reg .l) => .slaL
  | .rot .sla .mhl => .slaMHl
  | .rot .sla (.reg .a) => .slaA
  | .rot .sra (.reg .b) => .sraB
  | .rot .sra (.reg .c) => .sraC
  | .rot .sra (.reg .d) => .sraD
  | .rot .sra (.reg .e) => .sraE
  | .rot .sra (.reg .h) => .sraH
  | .rot .sra (.reg .l) => .sraL
  | .rot .sra .mhl => .sraMHl
  | .rot .sra (.reg .a) => .sraA
  | .rot .swap (.reg .b) => .swapB
  | .rot .swap (.reg .c) => .swapC
  | .rot .swap (.reg .d) => .swapD
  | .rot .swap (.reg .e) => .swapE
  | .rot .swap (.reg .h) => .swapH
  | .rot .swap (.reg .l) => .swapL
  | .rot .swap .mhl => .swapMHl
  | .rot .swap (.reg .a) => .swapA
  | .rot .srl (.reg .b) => .srlB
  | .rot .srl (.reg .c) => .srlC
  | .rot .srl (.reg .d) => .srlD
  | .rot .srl (.reg .e) => .srlE
  | .rot .srl (.reg .h) => .srlH
  | .rot .srl (.reg .l) => .srlL
  | .rot .srl .mhl => .srlMHl
  | .rot .srl (.reg .a) => .srlA
  | .bit .b0 (.reg .b) => .bit0B
  | .bit .b0 (.reg .c) => .bit0C
  | .bit .b0 (.reg .d) => .bit0D
  | .bit .b0 (.reg .e) => .bit0E
  | .bit .b0 (.reg .h) => .bit0H
  | .bit .b0 (.reg .l) => .bit0L
  | .bit .b0 .mhl => .bit0MHl
  | .bit .b0 (.reg .a) => .bit0A
  | .bit .b1 (.reg .b) => .bit1B
  | .bit .b1 (.reg .c) => .bit1C
  | .bit .b1 (.reg .d) => .bit1D
  | .bit .b1 (.reg .e) => .bit1E
  | .bit .b1 (.reg .h) => .bit1H
  | .bit .b1 (.reg .l) => .bit1L
  | .bit .b1 .mhl => .bit1MHl
  | .bit .b1 (.reg .a) => .bit1A
  | .bit .b2 (.reg .b) => .bit2B
  | .bit .b2 (.reg .c) => .bit2C
  | .bit .b2 (.reg .d) => .bit2D
  | .bit .b2 (.reg .e) => .bit2E
  | .bit .b2 (.reg .h) => .bit2H
  | .bit .b2 (.reg .l) => .bit2L
  | .bit .b2 .mhl => .bit2MHl
  | .bit .b2 (.reg .a) => .bit2A
  | .bit .b3 (.reg .b) => .bit3B
  | .bit .b3 (.reg .c) => .bit3C
  | .bit .b3 (.reg .d) => .bit3D
  | .bit .b3 (.reg .e) => .bit3E
  | .bit .b3 (.reg .h) => .bit3H
  | .bit .b3 (.reg .l) => .bit3L
  | .bit .b3 .mhl => .bit3MHl
  | .bit .b3 (.reg .a) => .bit3A
  | .bit .b4 (.reg .b) => .bit4B
  | .bit .b4 (.reg .c) => .bit4C
  | .bit .b4 (.reg .d) => .bit4D
  | .bit .b4 (.reg .e) => .bit4E
  | .bit .b4 (.reg .h) => .bit4H
  | .bit .b4 (.reg .l) => .bit4L
  | .bit .b4 .mhl => .bit4MHl
  | .bit .b4 (.reg .a) => .bit4A
  | .bit .b5 (.reg .b) => .bit5B
  | .bit .b5 (.reg .c) => .bit5C
  | .bit .b5 (.reg .d) => .bit5D
  | .bit .b5 (.reg .e) => .bit5E
  | .bit .b5 (.reg .h) => .bit5H
  | .bit .b5 (.reg .l) => .bit5L
  | .bit .b5 .mhl => .bit5MHl
  | .bit .b5 (.reg .a) => .bit5A
  | .bit .b6 (.reg .b) => .bit6B
  | .bit .b6 (.reg .c) => .bit6C
  | .bit .b6 (.reg .d) => .bit6D
  | .bit .b6 (.reg .e) => .bit6E
  | .bit .b6 (.reg .h) => .bit6H
  | .bit .b6 (.reg .l) => .bit6L
  | .bit .b6 .mhl => .bit6MHl
  | .bit .b6 (.reg .a) => .bit6A
  | .bit .b7 (.reg .b) => .bit7B
  | .bit .b7 (.reg .c) => .bit7C
  | .bit .b7 (.reg .d) => .bit7D
  | .bit .b7 (.reg .e) => .bit7E
  | .bit .b7 (.reg .h) => .bit7H
  | .bit .b7 (.reg .l) => .bit7L
  | .bit .b7 .mhl => .bit7MHl
  | .bit .b7 (.reg .a) => .bit7A
  | .res .b0 (.reg .b) => .res0B
  | .res .b0 (.reg .c) => .res0C
  | .res .b0 (.reg .d) => .res0D
  | .res .b0 (.reg .e) => .res0E
  | .res .b0 (.reg .h) => .res0H
  | .res .b0 (.reg .l) => .res0L
  | .res .b0 .mhl => .res0MHl
  | .res .b0 (.reg .a) => .res0A
  | .res .b1 (.reg .b) => .res1B
  | .res .b1 (.reg .c) => .res1C
  | .res .b1 (.reg .d) => .res1D
  | .res .b1 (.reg .e) => .res1E
  | .res .b1 (.reg .h) => .res1H
  | .res .b1 (.reg .l) => .res1L
  | .res .b1 .mhl => .res1MHl
  | .res .b1 (.reg .a) => .res1A
  | .res .b2 (.reg .b) => .res2B
  | .res .b2 (.reg .c) => .res2C
  | .res .b2 (.reg .d) => .res2D
  | .res .b2 (.reg .e) => .res2E
  | .res .b2 (.reg .h) => .res2H
  | .res .b2 (.reg .l) => .res2L
  | .res .b2 .mhl => .res2MHl
  | .res .b2 (.reg .a) => .res2A
  | .res .b3 (.reg .b) => .res3B
  | .res .b3 (.reg .c) => .res3C
  | .res .b3 (.reg .d) => .res3D
  | .res .b3 (.reg .e) => .res3E
  | .res .b3 (.reg .h) => .res3H
  | .res .b3 (.reg .l) => .res3L
  | .res .b3 .mhl => .res3MHl
  | .res .b3 (.reg .a) => .res3A
  | .res .b4 (.reg .b) => .res4B
  | .res .b4 (.reg .c) => .res4C
  | .res .b4 (.reg .d) => .res4D
  | .res .b4 (.reg .e) => .res4E
  | .res .b4 (.reg .h) => .res4H
  | .res .b4 (.reg .l) => .res4L
  | .res .b4 .mhl => .res4MHl
  | .res .b4 (.reg .a) => .res4A
  | .res .b5 (.reg .b) => .res5B
  | .res .b5 (.reg .c) => .res5C
  | .res .b5 (.reg .d) => .res5D
  | .res .b5 (.reg .e) => .res5E
  | .res .b5 (.reg .h) => .res5H
  | .res .b5 (.reg .l) => .res5L
  | .res .b5 .mhl => .res5MHl
  | .res .b5 (.reg .a) => .res5A
  | .res .b6 (.reg .b) => .res6B
  | .res .b6 (.reg .c) => .res6C
  | .res .b6 (.reg .d) => .res6D
  | .res .b6 (.reg .e) => .res6E
  | .res .b6 (.reg .h) => .res6H
  | .res .b6 (.reg .l) => .res6L
  | .res .b6 .mhl => .res6MHl
  | .res .b6 (.reg .a) => .res6A
  | .res .b7 (.reg .b) => .res7B
  | .res .b7 (.reg .c) => .res7C
  | .res .b7 (.reg .d) => .res7D
  | .res .b7 (.reg .e) => .res7E
  | .res .b7 (.reg .h) => .res7H
  | .res .b7 (.reg .l) => .res7L
  | .res .b7 .mhl => .res7MHl
  | .res .b7 (.reg .a) => .res7A
  | .set .b0 (.reg .b) => .set0B
  | .set .b0 (.reg .c) => .set0C
  | .set .b0 (.reg .d) => .set0D
  | .set .b0 (.reg .e) => .set0E
  | .set .b0 (.reg .h) => .set0H
  | .set .b0 (.reg .l) => .set0L
  | .set .b0 .mhl => .set0MHl
  | .set .b0 (.reg .a) => .set0A
  | .set .b1 (.reg .b) => .set1B
  | .set .b1 (.reg .c) => .set1C
  | .set .b1 (.reg .d) => .set1D
  | .set .b1 (.reg .e) => .set1E
  | .set .b1 (.reg .h) => .set1H
  | .set .b1 (.reg .l) => .set1L
  | .set .b1 .mhl => .set1MHl
  | .set .b1 (.reg .a) => .set1A
  | .set .b2 (.reg .b) => .set2B
  | .set .b2 (.reg .c) => .set2C
  | .set .b2 (.reg .d) => .set2D
  | .set .b2 (.reg .e) => .set2E
  | .set .b2 (.reg .h) => .set2H
  | .set .b2 (.reg .l) => .set2L
  | .set .b2 .mhl => .set2MHl
  | .set .b2 (.reg .a) => .set2A
  | .set .b3 (.reg .b) => .set3B
  | .set .b3 (.reg .c) => .set3C
  | .set .b3 (.reg .d) => .set3D
  | .set .b3 (.reg .e) => .set3E
  | .set .b3 (.reg .h) => .set3H
  | .set .b3 (.reg .l) => .set3L
  | .set .b3 .mhl => .set3MHl
  | .set .b3 (.reg .a) => .set3A
  | .set .b4 (.reg .b) => .set4B
  | .set .b4 (.reg .c) => .set4C
  | .set .b4 (.reg .d) => .set4D
  | .set .b4 (.reg .e) => .set4E
  | .set .b4 (.reg .h) => .set4H
  | .set .b4 (.reg .l) => .set4L
  | .set .b4 .mhl => .set4MHl
  | .set .b4 (.reg .a) => .set4A
  | .set .b5 (.reg .b) => .set5B
  | .set .b5 (.reg .c) => .set5C
  | .set .b5 (.reg .d) => .set5D
  | .set .b5 (.reg .e) => .set5E
  | .set .b5 (.reg .h) => .set5H
  | .set .b5 (.reg .l) => .set5L
  | .set .b5 .mhl => .set5MHl
  | .set .b5 (.reg .a) => .set5A
  | .set .b6 (.reg .b) => .set6B
  | .set .b6 (.reg .c) => .set6C
  | .set .b6 (.reg .d) => .set6D
  | .set .b6 (.reg .e) => .set6E
  | .set .b6 (.reg .h) => .set6H
  | .set .b6 (.reg .l) => .set6L
  | .set .b6 .mhl => .set6MHl
  | .set .b6 (.reg .a) => .set6A
  | .set .b7 (.reg .b) => .set7B
  | .set .b7 (.reg .c) => .set7C
  | .set .b7 (.reg .d) => .set7D
  | .set .b7 (.reg .e) => .set7E
  | .set .b7 (.reg .h) => .set7H
  | .set .b7 (.reg .l) => .set7L
  | .set .b7 .mhl => .set7MHl
  | .set .b7 (.reg .a) => .set7A
  | .jp nn => .jpImm16 nn
  | .jpCond .nz nn => .jpNzImm16 nn
  | .jpCond .z nn => .jpZImm16 nn
  | .jpCond .nc nn => .jpNcImm16 nn
  | .jpCond .c nn => .jpCImm16 nn
  | .jpHl => .jpHl
  | .jr e => .jrRel e
  | .jrCond .nz e => .jrNzRel e
  | .jrCond .z e => .jrZRel e
  | .jrCond .nc e => .jrNcRel e
  | .jrCond .c e => .jrCRel e
  | .call nn => .callImm16 nn
  | .callCond .nz nn => .callNzImm16 nn
  | .callCond .z nn => .callZImm16 nn
  | .callCond .nc nn => .callNcImm16 nn
  | .callCond .c nn => .callCImm16 nn
  | .ret => .ret
  | .retCond .nz => .retNz
  | .retCond .z => .retZ
  | .retCond .nc => .retNc
  | .retCond .c => .retC
  | .reti => .reti
  | .rst .b0 => .rst00
  | .rst .b1 => .rst08
  | .rst .b2 => .rst10
  | .rst .b3 => .rst18
  | .rst .b4 => .rst20
  | .rst .b5 => .rst28
  | .rst .b6 => .rst30
  | .rst .b7 => .rst38
  | .nop => .nop
  | .halt => .halt
  | .stop n => .stop n
  | .di => .di
  | .ei => .ei
  | .illegal .gd3 => .illegalD3
  | .illegal .gdb => .illegalDB
  | .illegal .gdd => .illegalDD
  | .illegal .ge3 => .illegalE3
  | .illegal .ge4 => .illegalE4
  | .illegal .geb => .illegalEB
  | .illegal .gec => .illegalEC
  | .illegal .ged => .illegalED
  | .illegal .gf4 => .illegalF4
  | .illegal .gfc => .illegalFC
  | .illegal .gfd => .illegalFD
  | .prefixCb c => .prefixCb c

end Sys2Proof
end

