-- ==== Sys2Proof/Machine/Ops.lean ====
section
/-! DEFINITION. The named operations over registers, bus, stack and interrupts that the meanings are written with
(00_scope.md R14 to R18, 20_memory.md R80 to R120, 60_exceptions.md R465 to R471, R500 to R572). -/

namespace Sys2Proof.Machine

/-! ### Registers -/

/-- `R[r]` (R14). -/
def State.reg (s : State) : Reg8 → Byte
  | .a => s.cpu.a
  | .b => s.cpu.b
  | .c => s.cpu.c
  | .d => s.cpu.d
  | .e => s.cpu.e
  | .h => s.cpu.h
  | .l => s.cpu.l

/-- `R[r] <- v` (R14). -/
def State.setReg (s : State) (r : Reg8) (v : Byte) : State :=
  match r with
  | .a => { s with cpu := { s.cpu with a := v } }
  | .b => { s with cpu := { s.cpu with b := v } }
  | .c => { s with cpu := { s.cpu with c := v } }
  | .d => { s with cpu := { s.cpu with d := v } }
  | .e => { s with cpu := { s.cpu with e := v } }
  | .h => { s with cpu := { s.cpu with h := v } }
  | .l => { s with cpu := { s.cpu with l := v } }

/-- `F <- v`, as the AF view writes it: bits 3:0 cleared (10_state.md R36). -/
def State.setF (s : State) (v : Byte) : State := { s with cpu := { s.cpu with f := v &&& 0xF0 } }

/-- `SP <- v`. -/
def State.setSp (s : State) (v : Word) : State := { s with cpu := { s.cpu with sp := v } }

/-- `pc <- v`. -/
def State.setPc (s : State) (v : Word) : State := { s with cpu := { s.cpu with pc := v } }

/-- `IME <- v` (10_state.md R40). -/
def State.setIme (s : State) (v : Bool) : State := { s with cpu := { s.cpu with ime := v } }

/-- `halted <- v` (10_state.md R41). -/
def State.setHalted (s : State) (v : Bool) : State := { s with cpu := { s.cpu with halted := v } }

/-- The pair view HL (10_state.md R35). -/
def State.hl (s : State) : Word := wordOf s.cpu.h s.cpu.l

/-- The pair view BC. -/
def State.bc (s : State) : Word := wordOf s.cpu.b s.cpu.c

/-- The pair view DE. -/
def State.de (s : State) : Word := wordOf s.cpu.d s.cpu.e

/-- `RP[HL] <- v` (10_state.md R36). -/
def State.setHl (s : State) (v : Word) : State := (s.setReg .h (hiByte v)).setReg .l (loByte v)

/-- `RP[p]` of the table `rp` (30_encoding.md R154). -/
def State.pair (s : State) : Pair → Word
  | .bc => s.bc
  | .de => s.de
  | .hl => s.hl
  | .sp => s.cpu.sp

/-- `RP[p] <- v` of the table `rp` (10_state.md R36, R37). -/
def State.setPair (s : State) (p : Pair) (v : Word) : State :=
  match p with
  | .bc => (s.setReg .b (hiByte v)).setReg .c (loByte v)
  | .de => (s.setReg .d (hiByte v)).setReg .e (loByte v)
  | .hl => s.setHl v
  | .sp => s.setSp v

/-- `RP[p]` of the table `rp2` (30_encoding.md R155). -/
def State.stackPair (s : State) : StackPair → Word
  | .bc => s.bc
  | .de => s.de
  | .hl => s.hl
  | .af => wordOf s.cpu.a s.cpu.f

/-- `RP[p] <- v` of the table `rp2`: a write of AF masks F (10_state.md R36). -/
def State.setStackPair (s : State) (p : StackPair) (v : Word) : State :=
  match p with
  | .bc => s.setPair .bc v
  | .de => s.setPair .de v
  | .hl => s.setPair .hl v
  | .af => (s.setReg .a (hiByte v)).setF (loByte v)

/-- The flag Z, bit 7 of F (10_state.md R32). -/
def State.zf (s : State) : Bool := s.cpu.f.getLsbD 7

/-- The flag N, bit 6 of F. -/
def State.nf (s : State) : Bool := s.cpu.f.getLsbD 6

/-- The flag H, bit 5 of F. -/
def State.hf (s : State) : Bool := s.cpu.f.getLsbD 5

/-- The flag C, bit 4 of F. -/
def State.cf (s : State) : Bool := s.cpu.f.getLsbD 4

/-- F with its four flags replaced; no flag write reaches F[3:0] (10_state.md R33). -/
def packFlags (z n h c : Bool) (f : Byte) : Byte :=
  BitVec.ofBool z ++ BitVec.ofBool n ++ BitVec.ofBool h ++ BitVec.ofBool c ++ f.extractLsb' 0 4

/-- `Z <- z; N <- n; Hf <- h; Cf <- c` (R14). -/
def State.setFlags (s : State) (z n h c : Bool) : State :=
  { s with cpu := { s.cpu with f := packFlags z n h c s.cpu.f } }

/-- `Cycles(n)` (R18): the instruction ends and the step returns `n` cycles. -/
def finish (n : Nat) (s : State) : Exec := .next { s with cycles := n }

/-! ### The bus -/

/-- The PPU register at 0xFF40 + k, k = 0..11 (20_memory.md R80). -/
def ppuRegAt (k : Nat) : PpuReg :=
  match k with
  | 0 => .lcdc
  | 1 => .stat
  | 2 => .scy
  | 3 => .scx
  | 4 => .ly
  | 5 => .lyc
  | 6 => .dma
  | 7 => .bgp
  | 8 => .obp0
  | 9 => .obp1
  | 10 => .wy
  | _ => .wx

/-- The dispatch tables of the bus, first match wins (20_memory.md R80, R81). -/
def busTarget (overlay oamWindow : Bool) (a : Word) : Target :=
  let n := a.toNat
  if overlay ∧ n < 0x100 then .boot n
  else if n < 0x4000 then .rom n
  else if n < 0x8000 then .romBank (n - 0x4000)
  else if n < 0xA000 then .vram (n - 0x8000)
  else if n < 0xC000 then .cartRam (n - 0xA000)
  else if n < 0xE000 then .wram (n - 0xC000)
  else if n < 0xFE00 then .unmapped
  else if n < 0xFEA0 then if oamWindow then .oam (n - 0xFE00) else .unmapped
  else if n < 0xFF00 then .unmapped
  else if n = 0xFF00 then .joyp
  else if n = 0xFF01 then .serialData
  else if n = 0xFF02 then .serialControl
  else if n = 0xFF03 then .unmapped
  else if n = 0xFF04 then .div
  else if n = 0xFF05 then .tima
  else if n = 0xFF06 then .tma
  else if n = 0xFF07 then .tac
  else if n < 0xFF0F then .unmapped
  else if n = 0xFF0F then .iflag
  else if n < 0xFF40 then .sound (n - 0xFF10)
  else if n < 0xFF4C then .ppu (ppuRegAt (n - 0xFF40))
  else if n = 0xFF50 then .bootOff
  else if n < 0xFF80 then .unmapped
  else if n < 0xFFFF then .hram (n - 0xFF80)
  else .ie

/-- What a bus address selects in a state. -/
def State.target (s : State) (a : Word) : Target := busTarget s.overlay s.params.oamWindow a

/-- The battery RAM size that a header byte ROM[0x149] names (20_memory.md R113); none for a code that refuses construction. -/
def ramSizeOf (code : Byte) : Option Nat :=
  match code.toNat with
  | 0 => some 0
  | 2 => some 0x2000
  | 3 => some 0x8000
  | 4 => some 0x20000
  | 5 => some 0x10000
  | _ => none

/-- `RAM_SIZE`, taken from ROM[0x149] (20_memory.md R113); 0 in a state whose header no session has. -/
def State.ramSize (s : State) : Nat := (ramSizeOf (Memory.read s.cart.rom 0x149)).getD 0

/-- The gate of battery RAM: "present and enabled" (20_memory.md R116, R119). -/
def State.ramOpen (s : State) : Bool := decide (0 < s.ramSize) && s.cart.ramEnabled

/-- STAT's mode bits 1:0 (60_exceptions.md R520). -/
def modeBits : PpuMode → BitVec 2
  | .hblank => 0
  | .vblank => 1
  | .oamScan => 2
  | .transfer => 3

/-- What a PPU register reads as (60_exceptions.md R511 to R532). -/
def readPpu (p : Ppu) : PpuReg → Byte
  | .lcdc => p.lcdc
  | .stat => BitVec.ofBool Config.statBit7 ++ p.statSel ++ BitVec.ofBool p.coincidence ++ modeBits p.mode
  | .scy => p.scy
  | .scx => p.scx
  | .ly => p.ly
  | .lyc => p.lyc
  | .dma => p.dma
  | .bgp => p.bgp
  | .obp0 => p.obp0
  | .obp1 => p.obp1
  | .wy => p.wy
  | .wx => p.wx

/-- The ROM offset of CPU address 0x4000 + off (20_memory.md R115). -/
def romOffset (c : Cart) (off : Nat) : Nat := c.bank.toNat * 0x4000 + off

/-- `MemRead(a)` by an agent (20_memory.md R80 to R83, R114 to R116). -/
def busRead (g : Agent) (a : Word) (s : State) : Except Fault Byte :=
  match s.target a with
  | .boot off => .ok (Memory.read s.params.boot off)
  | .rom off =>
    if off < s.cart.romLen then .ok (Memory.read s.cart.rom off) else .error (.romBounds g a 0 s)
  | .romBank off =>
    if romOffset s.cart off < s.cart.romLen then .ok (Memory.read s.cart.rom (romOffset s.cart off))
    else .error (.romBounds g a s.cart.bank s)
  | .vram off => .ok (Memory.read s.ppu.vram off)
  | .cartRam off => if s.ramOpen then .ok (Memory.read s.cart.ram off) else .error (.cartRam g (.read a) s)
  | .wram off => .ok (Memory.read s.wram off)
  | .oam off => .ok (Memory.read s.ppu.oam off)
  | .joyp => .ok (Config.joypRead s.ports.joypSel)
  | .serialData => .ok s.ports.sb
  | .serialControl => .ok s.ports.sc
  | .div => .ok (hiByte s.timer.cnt)
  | .tima => .ok s.timer.tima
  | .tma => .ok s.timer.tma
  | .tac => .ok s.timer.tac
  | .iflag => .ok s.irq.iflag
  | .sound off => .ok (Memory.read s.ports.sound off)
  | .ppu r => .ok (readPpu s.ppu r)
  | .bootOff => .error (.unmapped g (.read a) s)
  | .hram off => .ok (Memory.read s.hram off)
  | .ie => .ok s.irq.ie
  | .unmapped => .error (.unmapped g (.read a) s)

/-- A write of the DMA register by the CPU (60_exceptions.md R532, R560, R562, R564). DESIGN CHOICE (safe, log 7): while a transfer runs,
a value above 0xDF faults `DmaRetrigger`. -/
def writeDma (v : Byte) (s : State) : Except Fault State :=
  match s.ppu.dmaState with
  | some t => .error (.dmaRetrigger .cpu v t.offset s)
  | none =>
    if v.toNat ≤ 0xDF then
      .ok { s with ppu := { s.ppu with dma := v, dmaState := some { source := wordOf v 0, offset := 0 } } }
    else .error (.dmaSource .cpu v s)

/-- A write of a PPU register by the CPU (60_exceptions.md R511, R522 to R532). -/
def writePpu (a : Word) (r : PpuReg) (v : Byte) (s : State) : Except Fault State :=
  match r with
  | .lcdc => .ok { s with ppu := { s.ppu with lcdc := v } }
  | .stat => .ok { s with ppu := { s.ppu with statSel := v.extractLsb' 3 4 } }
  | .scy => .ok { s with ppu := { s.ppu with scy := v } }
  | .scx => .ok { s with ppu := { s.ppu with scx := v } }
  | .ly => .error (.unmapped .cpu (.write a v) s)
  | .lyc => .ok { s with ppu := { s.ppu with lyc := v } }
  | .dma => writeDma v s
  | .bgp => .ok { s with ppu := { s.ppu with bgp := v } }
  | .obp0 => .ok { s with ppu := { s.ppu with obp0 := v } }
  | .obp1 => .ok { s with ppu := { s.ppu with obp1 := v } }
  | .wy => .ok { s with ppu := { s.ppu with wy := v } }
  | .wx => .ok { s with ppu := { s.ppu with wx := v } }

/-- A cartridge control write to 0x0000–0x3FFF (20_memory.md R117, R118). -/
def writeCartControl (off : Nat) (v : Byte) (c : Cart) : Cart :=
  if off < 0x2000 then { c with ramEnabled := decide (v &&& 0x0F = 0x0A) }
  else { c with bank := if v = 0 then 1 else v }

/-- `MemWrite(a, v)` by the CPU, the only agent that writes the bus (20_memory.md R81, R82, R117 to R120, 60_exceptions.md R561);
its faults record that agent (R460). -/
def busWrite (a : Word) (v : Byte) (s : State) : Except Fault State :=
  match s.target a with
  | .boot off => .ok { s with cart := writeCartControl off v s.cart }
  | .rom off => .ok { s with cart := writeCartControl off v s.cart }
  | .romBank _ => .error (.unmapped .cpu (.write a v) s)
  | .vram off => .ok { s with ppu := { s.ppu with vram := Memory.write s.ppu.vram off v } }
  | .cartRam off =>
    if s.ramOpen then .ok { s with cart := { s.cart with ram := Memory.write s.cart.ram off v } }
    else .error (.cartRam .cpu (.write a v) s)
  | .wram off => .ok { s with wram := Memory.write s.wram off v }
  | .oam off => .ok { s with ppu := { s.ppu with oam := Memory.write s.ppu.oam off v } }
  | .joyp => .ok { s with ports := { s.ports with joypSel := v.extractLsb' 4 2 } }
  | .serialData => .ok { s with ports := { s.ports with sb := v } }
  | .serialControl => .ok { s with ports := { s.ports with sc := v } }
  | .div => .ok { s with timer := { s.timer with cnt := 0 } }
  | .tima => .ok { s with timer := { s.timer with tima := v } }
  | .tma => .ok { s with timer := { s.timer with tma := v } }
  | .tac => .ok { s with timer := { s.timer with tac := v } }
  | .iflag => .ok { s with irq := { s.irq with iflag := v } }
  | .sound off =>
    if (a, v) ∈ s.params.soundRefused then .error (.soundRejected .cpu a v s)
    else .ok { s with ports := { s.ports with sound := Memory.write s.ports.sound off v } }
  | .ppu r => writePpu a r v s
  | .bootOff => .ok { s with overlay := false }
  | .hram off => .ok { s with hram := Memory.write s.hram off v }
  | .ie => .ok { s with irq := { s.irq with ie := v } }
  | .unmapped => .error (.unmapped .cpu (.write a v) s)

/-- The byte a CPU read of an address gives, if it gives one: the model's read of one byte, as statements name it. -/
def State.peek (s : State) (a : Word) : Option Byte :=
  match busRead .cpu a s with
  | .ok v => some v
  | .error _ => none

/-- `MemRead(a)` inside an instruction: a fault ends the step (R16, R18). -/
def loadThen (a : Word) (s : State) (k : Byte → Exec) : Exec :=
  match busRead .cpu a s with
  | .ok v => k v
  | .error f => .fault f

/-- `MemWrite(a, v)` inside an instruction: a fault ends the step (R16, R18). -/
def storeThen (a : Word) (v : Byte) (s : State) (k : State → Exec) : Exec :=
  match busWrite a v s with
  | .ok t => k t
  | .error f => .fault f

/-! ### The stack -/

/-- `Push16(v)` (R17): the high byte at SP − 1, then the low byte at SP − 2. -/
def pushThen (v : Word) (s : State) (k : State → Exec) : Exec :=
  storeThen (s.cpu.sp - 1) (hiByte v) (s.setSp (s.cpu.sp - 1)) fun t =>
    storeThen (t.cpu.sp - 1) (loByte v) (t.setSp (t.cpu.sp - 1)) k

/-- `Pop16()` (R17): the low byte at SP, then the high byte at SP + 1. -/
def popThen (s : State) (k : Word → State → Exec) : Exec :=
  loadThen s.cpu.sp s fun lo =>
    loadThen (s.cpu.sp + 1) (s.setSp (s.cpu.sp + 1)) fun hi =>
      k (wordOf hi lo) (s.setSp (s.cpu.sp + 2))

/-! ### Interrupts -/

/-- The bit of IF and IE that belongs to a source (60_exceptions.md R465). -/
def IrqSource.bit : IrqSource → Nat
  | .vblank => 0
  | .lcdStat => 1
  | .timer => 2
  | .serial => 3
  | .joypad => 4

/-- The vector of a source (60_exceptions.md R465). -/
def IrqSource.vector : IrqSource → Word
  | .vblank => 0x0040
  | .lcdStat => 0x0048
  | .timer => 0x0050
  | .serial => 0x0058
  | .joypad => 0x0060

/-- The mask with one source's bit set. -/
def IrqSource.mask (src : IrqSource) : Byte := 1#8 <<< src.bit

/-- `pending()` (60_exceptions.md R468): the source of the lowest set bit of IE & IF & 0x1F. -/
def pendingSource (q : Irq) : Option IrqSource :=
  let m := q.ie &&& q.iflag &&& 0x1F
  if m.getLsbD 0 then some .vblank
  else if m.getLsbD 1 then some .lcdStat
  else if m.getLsbD 2 then some .timer
  else if m.getLsbD 3 then some .serial
  else if m.getLsbD 4 then some .joypad
  else none

/-- `clear(source)` (60_exceptions.md R469). -/
def clearRequest (src : IrqSource) (s : State) : State :=
  { s with irq := { s.irq with iflag := s.irq.iflag &&& ~~~ src.mask } }

/-- `request(source)` (60_exceptions.md R470). -/
def requestIrq (src : IrqSource) (s : State) : State :=
  { s with irq := { s.irq with iflag := s.irq.iflag ||| src.mask } }

/-- Interrupt dispatch, the only way the CORE takes an exception (60_exceptions.md R471): IME and halted cleared, the request
withdrawn, PC pushed, PC at the vector. -/
def dispatchIrq (src : IrqSource) (s : State) : Exec :=
  let t := clearRequest src ((s.setIme false).setHalted false)
  pushThen t.cpu.pc t fun u => finish u.params.irqCycles.count (u.setPc src.vector)

/-- Return from an interrupt (46_control.md R399, 60_exceptions.md R474): PC popped, IME set; nothing else is restored. -/
def returnFromIrq (s : State) : Exec :=
  popThen s fun v t => finish 16 ((t.setPc v).setIme true)

end Sys2Proof.Machine
end

