-- ==== Sys2Proof/Machine/Devices.lean ====
section
/-! DEFINITION. What the timer, the PPU and its OAM-DMA engine do in one cycle, and the ticks of a step (60_exceptions.md
R480 to R488, R500 to R564, R580 to R582). -/

namespace Sys2Proof.Machine

/-! ### The timer -/

/-- The rate mask of TAC[1:0] (R486). -/
def timerMask (tac : Byte) : Word :=
  match tac.toNat % 4 with
  | 0 => 0x3FF
  | 1 => 0x00F
  | 2 => 0x03F
  | _ => 0x0FF

/-- Whether a tick that makes the counter `cnt` counts TIMA (R486). -/
def timerCounts (tac : Byte) (cnt : Word) : Bool := tac.getLsbD 2 && decide (cnt &&& timerMask tac = 0)

/-- `Timer.tick()` (R486, R487). -/
def timerTick (s : State) : State :=
  let cnt := s.timer.cnt + 1
  if timerCounts s.timer.tac cnt then
    if s.timer.tima = 0xFF then
      requestIrq .timer { s with timer := { s.timer with cnt := cnt, tima := s.timer.tma } }
    else { s with timer := { s.timer with cnt := cnt, tima := s.timer.tima + 1 } }
  else { s with timer := { s.timer with cnt := cnt } }

/-! ### OAM-DMA -/

/-- `DmaStep()` (R561, R563): one byte through the bus dispatch into OAM. -/
def dmaStep (s : State) : Except Fault State :=
  match s.ppu.dmaState with
  | none => .ok s
  | some t =>
    match busRead .dma (t.source + BitVec.ofNat 16 t.offset) s with
    | .error f => .error f
    | .ok v =>
      let next := if t.offset = 159 then none else some { t with offset := t.offset + 1 }
      .ok { s with ppu := { s.ppu with oam := Memory.write s.ppu.oam t.offset v, dmaState := next } }

/-! ### The picture -/

/-- The tile map base selected by LCDC bit 3, a video RAM offset (R510, R550). -/
def mapBase (lcdc : Byte) : Nat := if lcdc.getLsbD 3 then 0x1C00 else 0x1800

/-- `TileBase(tile)` (R551): the tile's video RAM offset in the mode LCDC bit 4 selects. -/
def tileBase (lcdc tile : Byte) : Nat :=
  if lcdc.getLsbD 4 then tile.toNat * 16 else (0x1000 + tile.toInt * 16).toNat

/-- `(BGP >> (2·idx)) & 3` (R529). -/
def paletteColour (bgp : Byte) (idx : Nat) : BitVec 2 := (bgp >>> (2 * idx)).extractLsb' 0 2

/-- The colour DrawPixel gives pixel (x, y) (R550). -/
def pixelColour (p : Ppu) (x : Nat) (y : Byte) : BitVec 2 :=
  let bgY := y + p.scy
  let bgX := BitVec.ofNat 8 x + p.scx
  let tile := Memory.read p.vram (mapBase p.lcdc + (bgY.toNat / 8) * 32 + bgX.toNat / 8)
  let base := tileBase p.lcdc tile
  let row := bgY.toNat % 8
  let lo := Memory.read p.vram (base + 2 * row)
  let hi := Memory.read p.vram (base + 2 * row + 1)
  let k := 7 - bgX.toNat % 8
  paletteColour p.bgp (2 * bitOf hi k + bitOf lo k)
where
  /-- Bit `k` of a byte as a number. -/
  bitOf (v : Byte) (k : Nat) : Nat := if v.getLsbD k then 1 else 0

/-- `DrawPixel` at the tick's dot (R541, R553): column dot − 80. DESIGN CHOICE (safe, log 8): a line at or past 144, which has
no framebuffer row (R552), draws nothing. -/
def drawStep (p : Ppu) : Ppu :=
  if p.mode = .transfer ∧ p.dot < 240 ∧ p.ly.toNat < 144 then
    let x := p.dot - 80
    { p with fb := Memory.write p.fb (160 * p.ly.toNat + x) (pixelColour p x p.ly) }
  else p

/-- The object height selected by LCDC bit 2 (R510). -/
def objectHeight (lcdc : Byte) : Nat := if lcdc.getLsbD 2 then 16 else 8

/-- `OamScan(LY)` (R555): the objects that overlap the line, OAM[4i] − 16 ≤ LY < OAM[4i] − 16 + height. -/
def oamScan (p : Ppu) : List Nat :=
  (List.range 40).filter fun i =>
    let top : Int := (Memory.read p.oam (4 * i)).toNat - 16
    decide (top ≤ p.ly.toNat) && decide ((p.ly.toNat : Int) < top + objectHeight p.lcdc)

/-- The end of a line (R541, R543): dot 0, the next line, and the mode it begins in. -/
def lineEnd (p : Ppu) : Ppu :=
  let ly := p.ly + 1
  if ly = 144 then { p with dot := 0, ly := ly, mode := .vblank }
  else if ly = 154 then { p with dot := 0, ly := 0, mode := .oamScan }
  else if ly.toNat < 144 then { p with dot := 0, ly := ly, mode := .oamScan }
  else { p with dot := 0, ly := ly }

/-- Whether a tick that makes the dot counter `dot` ends the line: the last branch of R541's test. -/
def endsLine (p : Ppu) (dot : Nat) : Bool :=
  !(decide (p.mode = .oamScan) && decide (dot = 80)) && !(decide (p.mode = .transfer) && decide (dot = 248)) &&
    decide (dot = 456)

/-- The dot counter, mode and line of one tick (R541). -/
def advanceDot (p : Ppu) : Ppu :=
  let dot := p.dot + 1
  if p.mode = .oamScan ∧ dot = 80 then { p with dot := dot, lineObjects := oamScan p, mode := .transfer }
  else if p.mode = .transfer ∧ dot = 248 then { p with dot := dot, mode := .hblank }
  else if dot = 456 then lineEnd p
  else { p with dot := dot }

/-- Whether the tick enters V-blank: the line ends and the next one is 144 (R544). -/
def entersVblank (p : Ppu) : Bool := endsLine p (p.dot + 1) && decide (p.ly + 1 = 144)

/-- The STAT interrupt line (R556). -/
def statLineValue (p : Ppu) : Bool :=
  p.statSel.getLsbD 0 && decide (p.mode = .hblank) || p.statSel.getLsbD 1 && decide (p.mode = .vblank) ||
    p.statSel.getLsbD 2 && decide (p.mode = .oamScan) || p.statSel.getLsbD 3 && p.coincidence

/-- `StatLine()` (R556): a rising edge requests LCD-STAT. -/
def statLineStep (s : State) : State :=
  let line := statLineValue s.ppu
  let t := { s with ppu := { s.ppu with statLine := line } }
  if line && !s.ppu.statLine then requestIrq .lcdStat t else t

/-- The rest of an enabled tick, after its DMA step: pixel, dot, V-blank request, coincidence, STAT line (R541, R545). -/
def scanStep (s : State) : State :=
  let p := drawStep s.ppu
  let q := advanceDot p
  let t := { s with ppu := { q with coincidence := decide (q.ly = q.lyc) } }
  let u := if entersVblank p then requestIrq .vblank t else t
  if s.params.statIrq then statLineStep u else u

/-- `PPU.tick()` (R540, R541). -/
def ppuTick (s : State) : Except Fault State :=
  if s.ppu.lcdc.getLsbD 7 then
    match dmaStep s with
    | .error f => .error f
    | .ok t => .ok (scanStep t)
  else .ok s

/-! ### The ticks of a step -/

/-- One cycle: the PPU tick, then the timer tick (R580, R581). -/
def cycleTick (s : State) : Except Fault State :=
  match ppuTick s with
  | .error f => .error f
  | .ok t => .ok (timerTick t)

/-- `n` cycles (R580). -/
def ticks : Nat → State → Except Fault State
  | 0, s => .ok s
  | n + 1, s =>
    match cycleTick s with
    | .error f => .error f
    | .ok t => ticks n t

end Sys2Proof.Machine
end

