-- ==== Sys2Proof/WellFormed.lean ====
section
/-! DEFINITION. Which instruction terms the encoding admits. -/

namespace Sys2Proof

/-- The forms a byte sequence can stand for: every one but the prefix row, which "is not an instruction of its own"
(30_encoding.md R163): its two bytes are the encoding of a CB row. Every operand value of the others has an encoding, since the
operands are the fields of the encoding (R150 to R158, R165). -/
def Form.wellFormed : Form → Bool
  | .ldRegReg _ _ => true
  | .ldRegImm _ _ => true
  | .ldRegMHl _ => true
  | .ldMHlReg _ => true
  | .ldMHlImm _ => true
  | .ldAMPair _ => true
  | .ldMPairA _ => true
  | .ldAMImm16 _ => true
  | .ldMImm16A _ => true
  | .ldhAMN _ => true
  | .ldhMNA _ => true
  | .ldAMC => true
  | .ldMCA => true
  | .ldMHlIncA => true
  | .ldMHlDecA => true
  | .ldAMHlInc => true
  | .ldAMHlDec => true
  | .ldPairImm _ _ => true
  | .ldMImm16Sp _ => true
  | .ldSpHl => true
  | .push _ => true
  | .pop _ => true
  | .ldHlSpRel _ => true
  | .alu _ _ => true
  | .incReg _ => true
  | .incMHl => true
  | .decReg _ => true
  | .decMHl => true
  | .daa => true
  | .cpl => true
  | .scf => true
  | .ccf => true
  | .addHlPair _ => true
  | .incPair _ => true
  | .decPair _ => true
  | .addSpRel _ => true
  | .rlca => true
  | .rrca => true
  | .rla => true
  | .rra => true
  | .rot _ _ => true
  | .bit _ _ => true
  | .res _ _ => true
  | .set _ _ => true
  | .jp _ => true
  | .jpCond _ _ => true
  | .jpHl => true
  | .jr _ => true
  | .jrCond _ _ => true
  | .call _ => true
  | .callCond _ _ => true
  | .ret => true
  | .retCond _ => true
  | .reti => true
  | .rst _ => true
  | .nop => true
  | .halt => true
  | .stop _ => true
  | .di => true
  | .ei => true
  | .illegal _ => true
  | .prefixCb _ => false

/-- An instruction is well formed when its form is: all but `prefixCb`. -/
def Instr.wellFormed (i : Instr) : Bool := i.form.wellFormed

end Sys2Proof
end

