-- ==== Sys2Proof/Decode.lean ====
section
/-! DEFINITION. Decoding, total on any bytes (30_encoding.md R150 to R165), read off the field tables R151 to R158, and the encoder,
written from the rows of the opcode maps R159 and R161. Every opcode byte decodes; a byte list is rejected only when it is shorter
than the instruction its first byte begins. -/

namespace Sys2Proof

/-- Why a byte list is no instruction. -/
inductive DecodeError where
  /-- The list is empty: there is no opcode byte. -/
  | noBytes
  /-- The opcode's operand bytes are missing. -/
  | missingOperand (opcode : Byte) (length : Nat)
  deriving DecidableEq, Repr

/-- The operand table `r8` (R153). -/
def operandR8 (i : BitVec 3) : Operand8 :=
  match i.toNat with
  | 0 => .reg .b
  | 1 => .reg .c
  | 2 => .reg .d
  | 3 => .reg .e
  | 4 => .reg .h
  | 5 => .reg .l
  | 6 => .mhl
  | _ => .reg .a

/-- The operand table `rp` (R154). -/
def operandRp (i : BitVec 2) : Pair :=
  match i.toNat with
  | 0 => .bc
  | 1 => .de
  | 2 => .hl
  | _ => .sp

/-- The operand table `rp2` (R155). -/
def operandRp2 (i : BitVec 2) : StackPair :=
  match i.toNat with
  | 0 => .bc
  | 1 => .de
  | 2 => .hl
  | _ => .af

/-- The condition table `cc` (R156), indexed by the low two bits of y. -/
def operandCc (y : BitVec 3) : Cond :=
  match y.toNat % 4 with
  | 0 => .nz
  | 1 => .z
  | 2 => .nc
  | _ => .c

/-- The ALU table `alu` (R157). -/
def operandAlu (y : BitVec 3) : AluOp :=
  match y.toNat with
  | 0 => .add
  | 1 => .adc
  | 2 => .sub
  | 3 => .sbc
  | 4 => .and
  | 5 => .xor
  | 6 => .or
  | _ => .cp

/-- The rotate table `rot` (R158). -/
def operandRot (y : BitVec 3) : RotOp :=
  match y.toNat with
  | 0 => .rlc
  | 1 => .rrc
  | 2 => .rl
  | 3 => .rr
  | 4 => .sla
  | 5 => .sra
  | 6 => .swap
  | _ => .srl

/-- The field y as a bit number or restart index (R158; 46_control.md R400). -/
def operandBit (y : BitVec 3) : Bit3 :=
  match y.toNat with
  | 0 => .b0
  | 1 => .b1
  | 2 => .b2
  | 3 => .b3
  | 4 => .b4
  | 5 => .b5
  | 6 => .b6
  | _ => .b7

/-- The CB page (R158, R161): the second byte of a CB instruction. -/
def decodeCb (c : Byte) : Form :=
  let t := operandR8 (Machine.fieldZ c)
  let y := Machine.fieldY c
  match (Machine.fieldX c).toNat with
  | 0 => .rot (operandRot y) t
  | 1 => .bit (operandBit y) t
  | 2 => .res (operandBit y) t
  | _ => .set (operandBit y) t

/-- `LD r8[y],r8[z]` (R159, x = 1): index 6 on both sides is HALT. -/
def decodeLoad (dst src : Operand8) : Form :=
  match dst, src with
  | .reg r, .reg r' => .ldRegReg r r'
  | .reg r, .mhl => .ldRegMHl r
  | .mhl, .reg r' => .ldMHlReg r'
  | .mhl, .mhl => .halt

/-- The source of an ALU instruction from its r8 operand (42_alu8.md R270). -/
def aluSource : Operand8 → AluSrc
  | .reg r => .reg r
  | .mhl => .mhl

/-- The x = 0 quarter of the first-byte map (R159). -/
def decodeX0 (op b1 : Byte) (nn : Word) : Form :=
  let y := Machine.fieldY op
  let p := Machine.fieldP op
  let q := Machine.fieldQ op
  match (Machine.fieldZ op).toNat with
  | 0 => match y.toNat with
    | 0 => .nop
    | 1 => .ldMImm16Sp nn
    | 2 => .stop b1
    | 3 => .jr b1
    | _ => .jrCond (operandCc y) b1
  | 1 => if q then .addHlPair (operandRp p) else .ldPairImm (operandRp p) nn
  | 2 => match q, p.toNat with
    | false, 0 => .ldMPairA .bc
    | false, 1 => .ldMPairA .de
    | false, 2 => .ldMHlIncA
    | false, _ => .ldMHlDecA
    | true, 0 => .ldAMPair .bc
    | true, 1 => .ldAMPair .de
    | true, 2 => .ldAMHlInc
    | true, _ => .ldAMHlDec
  | 3 => if q then .decPair (operandRp p) else .incPair (operandRp p)
  | 4 => match operandR8 y with
    | .reg r => .incReg r
    | .mhl => .incMHl
  | 5 => match operandR8 y with
    | .reg r => .decReg r
    | .mhl => .decMHl
  | 6 => match operandR8 y with
    | .reg r => .ldRegImm r b1
    | .mhl => .ldMHlImm b1
  | _ => match y.toNat with
    | 0 => .rlca
    | 1 => .rrca
    | 2 => .rla
    | 3 => .rra
    | 4 => .daa
    | 5 => .cpl
    | 6 => .scf
    | _ => .ccf

/-- The x = 3 quarter of the first-byte map (R159), the gaps among it (R160). -/
def decodeX3 (op b1 : Byte) (nn : Word) : Form :=
  let y := Machine.fieldY op
  let p := Machine.fieldP op
  let q := Machine.fieldQ op
  match (Machine.fieldZ op).toNat with
  | 0 => match y.toNat with
    | 4 => .ldhMNA b1
    | 5 => .addSpRel b1
    | 6 => .ldhAMN b1
    | 7 => .ldHlSpRel b1
    | _ => .retCond (operandCc y)
  | 1 => match q, p.toNat with
    | false, _ => .pop (operandRp2 p)
    | true, 0 => .ret
    | true, 1 => .reti
    | true, 2 => .jpHl
    | true, _ => .ldSpHl
  | 2 => match y.toNat with
    | 4 => .ldMCA
    | 5 => .ldMImm16A nn
    | 6 => .ldAMC
    | 7 => .ldAMImm16 nn
    | _ => .jpCond (operandCc y) nn
  | 3 => match y.toNat with
    | 0 => .jp nn
    | 1 => decodeCb b1
    | 2 => .illegal .gd3
    | 3 => .illegal .gdb
    | 4 => .illegal .ge3
    | 5 => .illegal .geb
    | 6 => .di
    | _ => .ei
  | 4 => match y.toNat with
    | 4 => .illegal .ge4
    | 5 => .illegal .gec
    | 6 => .illegal .gf4
    | 7 => .illegal .gfc
    | _ => .callCond (operandCc y) nn
  | 5 => match q, p.toNat with
    | false, _ => .push (operandRp2 p)
    | true, 0 => .call nn
    | true, 1 => .illegal .gdd
    | true, 2 => .illegal .ged
    | true, _ => .illegal .gfd
  | 6 => .alu (operandAlu y) (.imm b1)
  | _ => .rst (operandBit y)

/-- The form that an opcode byte and the two bytes after it stand for; bytes past the instruction's length are not looked at
(R162). -/
def decodeForm (op b1 b2 : Byte) : Form :=
  let nn := Machine.wordOf b2 b1
  match (Machine.fieldX op).toNat with
  | 0 => decodeX0 op b1 nn
  | 1 => decodeLoad (operandR8 (Machine.fieldY op)) (operandR8 (Machine.fieldZ op))
  | 2 => .alu (operandAlu (Machine.fieldY op)) (aluSource (operandR8 (Machine.fieldZ op)))
  | _ => decodeX3 op b1 nn

/-- The instruction that an opcode byte and the two bytes after it stand for. -/
def decodeInstr (op b1 b2 : Byte) : Instr := (decodeForm op b1 b2).instr

/-- The length in bytes of the instruction an opcode byte begins (R150, R159, R162): fixed by the first byte alone. -/
def opcodeLength (op : Byte) : Nat :=
  let y := (Machine.fieldY op).toNat
  let z := (Machine.fieldZ op).toNat
  let q := Machine.fieldQ op
  match (Machine.fieldX op).toNat with
  | 0 => match z with
    | 0 => match y with
      | 0 => 1
      | 1 => 3
      | _ => 2
    | 1 => if q then 1 else 3
    | 6 => 2
    | _ => 1
  | 1 => 1
  | 2 => 1
  | _ => match z with
    | 0 => if y < 4 then 1 else 2
    | 2 => if y = 4 ∨ y = 6 then 1 else 3
    | 3 => match y with
      | 0 => 3
      | 1 => 2
      | _ => 1
    | 4 => if y < 4 then 3 else 1
    | 5 => if y = 1 then 3 else 1
    | 6 => 2
    | _ => 1

/-- Decode the instruction at the head of a byte list, and give the bytes after it (R162). -/
def decode : List Byte → Except DecodeError (Instr × List Byte)
  | [] => .error .noBytes
  | op :: rest =>
    match opcodeLength op, rest with
    | 1, _ => .ok (decodeInstr op 0 0, rest)
    | 2, b1 :: more => .ok (decodeInstr op b1 0, more)
    | 3, b1 :: b2 :: more => .ok (decodeInstr op b1 b2, more)
    | n, _ => .error (.missingOperand op n)

/-- The bytes of an instruction, in fetch order: its row of the opcode maps R159 and R161 (a word operand low byte first,
R152). -/
def encode : Instr → List Byte
  | .nop => [0x00]
  | .ldBcImm16 nn => [0x01, Machine.loByte nn, Machine.hiByte nn]
  | .ldMBcA => [0x02]
  | .incBc => [0x03]
  | .incB => [0x04]
  | .decB => [0x05]
  | .ldBImm8 n => [0x06, n]
  | .rlca => [0x07]
  | .ldMImm16Sp nn => [0x08, Machine.loByte nn, Machine.hiByte nn]
  | .addHlBc => [0x09]
  | .ldAMBc => [0x0A]
  | .decBc => [0x0B]
  | .incC => [0x0C]
  | .decC => [0x0D]
  | .ldCImm8 n => [0x0E, n]
  | .rrca => [0x0F]
  | .stop n => [0x10, n]
  | .ldDeImm16 nn => [0x11, Machine.loByte nn, Machine.hiByte nn]
  | .ldMDeA => [0x12]
  | .incDe => [0x13]
  | .incD => [0x14]
  | .decD => [0x15]
  | .ldDImm8 n => [0x16, n]
  | .rla => [0x17]
  | .jrRel e => [0x18, e]
  | .addHlDe => [0x19]
  | .ldAMDe => [0x1A]
  | .decDe => [0x1B]
  | .incE => [0x1C]
  | .decE => [0x1D]
  | .ldEImm8 n => [0x1E, n]
  | .rra => [0x1F]
  | .jrNzRel e => [0x20, e]
  | .ldHlImm16 nn => [0x21, Machine.loByte nn, Machine.hiByte nn]
  | .ldMHlIncA => [0x22]
  | .incHl => [0x23]
  | .incH => [0x24]
  | .decH => [0x25]
  | .ldHImm8 n => [0x26, n]
  | .daa => [0x27]
  | .jrZRel e => [0x28, e]
  | .addHlHl => [0x29]
  | .ldAMHlInc => [0x2A]
  | .decHl => [0x2B]
  | .incL => [0x2C]
  | .decL => [0x2D]
  | .ldLImm8 n => [0x2E, n]
  | .cpl => [0x2F]
  | .jrNcRel e => [0x30, e]
  | .ldSpImm16 nn => [0x31, Machine.loByte nn, Machine.hiByte nn]
  | .ldMHlDecA => [0x32]
  | .incSp => [0x33]
  | .incMHl => [0x34]
  | .decMHl => [0x35]
  | .ldMHlImm8 n => [0x36, n]
  | .scf => [0x37]
  | .jrCRel e => [0x38, e]
  | .addHlSp => [0x39]
  | .ldAMHlDec => [0x3A]
  | .decSp => [0x3B]
  | .incA => [0x3C]
  | .decA => [0x3D]
  | .ldAImm8 n => [0x3E, n]
  | .ccf => [0x3F]
  | .ldBB => [0x40]
  | .ldBC => [0x41]
  | .ldBD => [0x42]
  | .ldBE => [0x43]
  | .ldBH => [0x44]
  | .ldBL => [0x45]
  | .ldBMHl => [0x46]
  | .ldBA => [0x47]
  | .ldCB => [0x48]
  | .ldCC => [0x49]
  | .ldCD => [0x4A]
  | .ldCE => [0x4B]
  | .ldCH => [0x4C]
  | .ldCL => [0x4D]
  | .ldCMHl => [0x4E]
  | .ldCA => [0x4F]
  | .ldDB => [0x50]
  | .ldDC => [0x51]
  | .ldDD => [0x52]
  | .ldDE => [0x53]
  | .ldDH => [0x54]
  | .ldDL => [0x55]
  | .ldDMHl => [0x56]
  | .ldDA => [0x57]
  | .ldEB => [0x58]
  | .ldEC => [0x59]
  | .ldED => [0x5A]
  | .ldEE => [0x5B]
  | .ldEH => [0x5C]
  | .ldEL => [0x5D]
  | .ldEMHl => [0x5E]
  | .ldEA => [0x5F]
  | .ldHB => [0x60]
  | .ldHC => [0x61]
  | .ldHD => [0x62]
  | .ldHE => [0x63]
  | .ldHH => [0x64]
  | .ldHL => [0x65]
  | .ldHMHl => [0x66]
  | .ldHA => [0x67]
  | .ldLB => [0x68]
  | .ldLC => [0x69]
  | .ldLD => [0x6A]
  | .ldLE => [0x6B]
  | .ldLH => [0x6C]
  | .ldLL => [0x6D]
  | .ldLMHl => [0x6E]
  | .ldLA => [0x6F]
  | .ldMHlB => [0x70]
  | .ldMHlC => [0x71]
  | .ldMHlD => [0x72]
  | .ldMHlE => [0x73]
  | .ldMHlH => [0x74]
  | .ldMHlL => [0x75]
  | .halt => [0x76]
  | .ldMHlA => [0x77]
  | .ldAB => [0x78]
  | .ldAC => [0x79]
  | .ldAD => [0x7A]
  | .ldAE => [0x7B]
  | .ldAH => [0x7C]
  | .ldAL => [0x7D]
  | .ldAMHl => [0x7E]
  | .ldAA => [0x7F]
  | .addAB => [0x80]
  | .addAC => [0x81]
  | .addAD => [0x82]
  | .addAE => [0x83]
  | .addAH => [0x84]
  | .addAL => [0x85]
  | .addAMHl => [0x86]
  | .addAA => [0x87]
  | .adcAB => [0x88]
  | .adcAC => [0x89]
  | .adcAD => [0x8A]
  | .adcAE => [0x8B]
  | .adcAH => [0x8C]
  | .adcAL => [0x8D]
  | .adcAMHl => [0x8E]
  | .adcAA => [0x8F]
  | .subB => [0x90]
  | .subC => [0x91]
  | .subD => [0x92]
  | .subE => [0x93]
  | .subH => [0x94]
  | .subL => [0x95]
  | .subMHl => [0x96]
  | .subA => [0x97]
  | .sbcAB => [0x98]
  | .sbcAC => [0x99]
  | .sbcAD => [0x9A]
  | .sbcAE => [0x9B]
  | .sbcAH => [0x9C]
  | .sbcAL => [0x9D]
  | .sbcAMHl => [0x9E]
  | .sbcAA => [0x9F]
  | .andB => [0xA0]
  | .andC => [0xA1]
  | .andD => [0xA2]
  | .andE => [0xA3]
  | .andH => [0xA4]
  | .andL => [0xA5]
  | .andMHl => [0xA6]
  | .andA => [0xA7]
  | .xorB => [0xA8]
  | .xorC => [0xA9]
  | .xorD => [0xAA]
  | .xorE => [0xAB]
  | .xorH => [0xAC]
  | .xorL => [0xAD]
  | .xorMHl => [0xAE]
  | .xorA => [0xAF]
  | .orB => [0xB0]
  | .orC => [0xB1]
  | .orD => [0xB2]
  | .orE => [0xB3]
  | .orH => [0xB4]
  | .orL => [0xB5]
  | .orMHl => [0xB6]
  | .orA => [0xB7]
  | .cpB => [0xB8]
  | .cpC => [0xB9]
  | .cpD => [0xBA]
  | .cpE => [0xBB]
  | .cpH => [0xBC]
  | .cpL => [0xBD]
  | .cpMHl => [0xBE]
  | .cpA => [0xBF]
  | .retNz => [0xC0]
  | .popBc => [0xC1]
  | .jpNzImm16 nn => [0xC2, Machine.loByte nn, Machine.hiByte nn]
  | .jpImm16 nn => [0xC3, Machine.loByte nn, Machine.hiByte nn]
  | .callNzImm16 nn => [0xC4, Machine.loByte nn, Machine.hiByte nn]
  | .pushBc => [0xC5]
  | .addAImm8 n => [0xC6, n]
  | .rst00 => [0xC7]
  | .retZ => [0xC8]
  | .ret => [0xC9]
  | .jpZImm16 nn => [0xCA, Machine.loByte nn, Machine.hiByte nn]
  | .prefixCb c => [0xCB, c]
  | .callZImm16 nn => [0xCC, Machine.loByte nn, Machine.hiByte nn]
  | .callImm16 nn => [0xCD, Machine.loByte nn, Machine.hiByte nn]
  | .adcAImm8 n => [0xCE, n]
  | .rst08 => [0xCF]
  | .retNc => [0xD0]
  | .popDe => [0xD1]
  | .jpNcImm16 nn => [0xD2, Machine.loByte nn, Machine.hiByte nn]
  | .illegalD3 => [0xD3]
  | .callNcImm16 nn => [0xD4, Machine.loByte nn, Machine.hiByte nn]
  | .pushDe => [0xD5]
  | .subImm8 n => [0xD6, n]
  | .rst10 => [0xD7]
  | .retC => [0xD8]
  | .reti => [0xD9]
  | .jpCImm16 nn => [0xDA, Machine.loByte nn, Machine.hiByte nn]
  | .illegalDB => [0xDB]
  | .callCImm16 nn => [0xDC, Machine.loByte nn, Machine.hiByte nn]
  | .illegalDD => [0xDD]
  | .sbcAImm8 n => [0xDE, n]
  | .rst18 => [0xDF]
  | .ldhMNA n => [0xE0, n]
  | .popHl => [0xE1]
  | .ldMCA => [0xE2]
  | .illegalE3 => [0xE3]
  | .illegalE4 => [0xE4]
  | .pushHl => [0xE5]
  | .andImm8 n => [0xE6, n]
  | .rst20 => [0xE7]
  | .addSpRel e => [0xE8, e]
  | .jpHl => [0xE9]
  | .ldMImm16A nn => [0xEA, Machine.loByte nn, Machine.hiByte nn]
  | .illegalEB => [0xEB]
  | .illegalEC => [0xEC]
  | .illegalED => [0xED]
  | .xorImm8 n => [0xEE, n]
  | .rst28 => [0xEF]
  | .ldhAMN n => [0xF0, n]
  | .popAf => [0xF1]
  | .ldAMC => [0xF2]
  | .di => [0xF3]
  | .illegalF4 => [0xF4]
  | .pushAf => [0xF5]
  | .orImm8 n => [0xF6, n]
  | .rst30 => [0xF7]
  | .ldHlSpRel e => [0xF8, e]
  | .ldSpHl => [0xF9]
  | .ldAMImm16 nn => [0xFA, Machine.loByte nn, Machine.hiByte nn]
  | .ei => [0xFB]
  | .illegalFC => [0xFC]
  | .illegalFD => [0xFD]
  | .cpImm8 n => [0xFE, n]
  | .rst38 => [0xFF]
  | .rlcB => [0xCB, 0x00]
  | .rlcC => [0xCB, 0x01]
  | .rlcD => [0xCB, 0x02]
  | .rlcE => [0xCB, 0x03]
  | .rlcH => [0xCB, 0x04]
  | .rlcL => [0xCB, 0x05]
  | .rlcMHl => [0xCB, 0x06]
  | .rlcA => [0xCB, 0x07]
  | .rrcB => [0xCB, 0x08]
  | .rrcC => [0xCB, 0x09]
  | .rrcD => [0xCB, 0x0A]
  | .rrcE => [0xCB, 0x0B]
  | .rrcH => [0xCB, 0x0C]
  | .rrcL => [0xCB, 0x0D]
  | .rrcMHl => [0xCB, 0x0E]
  | .rrcA => [0xCB, 0x0F]
  | .rlB => [0xCB, 0x10]
  | .rlC => [0xCB, 0x11]
  | .rlD => [0xCB, 0x12]
  | .rlE => [0xCB, 0x13]
  | .rlH => [0xCB, 0x14]
  | .rlL => [0xCB, 0x15]
  | .rlMHl => [0xCB, 0x16]
  | .rlA => [0xCB, 0x17]
  | .rrB => [0xCB, 0x18]
  | .rrC => [0xCB, 0x19]
  | .rrD => [0xCB, 0x1A]
  | .rrE => [0xCB, 0x1B]
  | .rrH => [0xCB, 0x1C]
  | .rrL => [0xCB, 0x1D]
  | .rrMHl => [0xCB, 0x1E]
  | .rrA => [0xCB, 0x1F]
  | .slaB => [0xCB, 0x20]
  | .slaC => [0xCB, 0x21]
  | .slaD => [0xCB, 0x22]
  | .slaE => [0xCB, 0x23]
  | .slaH => [0xCB, 0x24]
  | .slaL => [0xCB, 0x25]
  | .slaMHl => [0xCB, 0x26]
  | .slaA => [0xCB, 0x27]
  | .sraB => [0xCB, 0x28]
  | .sraC => [0xCB, 0x29]
  | .sraD => [0xCB, 0x2A]
  | .sraE => [0xCB, 0x2B]
  | .sraH => [0xCB, 0x2C]
  | .sraL => [0xCB, 0x2D]
  | .sraMHl => [0xCB, 0x2E]
  | .sraA => [0xCB, 0x2F]
  | .swapB => [0xCB, 0x30]
  | .swapC => [0xCB, 0x31]
  | .swapD => [0xCB, 0x32]
  | .swapE => [0xCB, 0x33]
  | .swapH => [0xCB, 0x34]
  | .swapL => [0xCB, 0x35]
  | .swapMHl => [0xCB, 0x36]
  | .swapA => [0xCB, 0x37]
  | .srlB => [0xCB, 0x38]
  | .srlC => [0xCB, 0x39]
  | .srlD => [0xCB, 0x3A]
  | .srlE => [0xCB, 0x3B]
  | .srlH => [0xCB, 0x3C]
  | .srlL => [0xCB, 0x3D]
  | .srlMHl => [0xCB, 0x3E]
  | .srlA => [0xCB, 0x3F]
  | .bit0B => [0xCB, 0x40]
  | .bit0C => [0xCB, 0x41]
  | .bit0D => [0xCB, 0x42]
  | .bit0E => [0xCB, 0x43]
  | .bit0H => [0xCB, 0x44]
  | .bit0L => [0xCB, 0x45]
  | .bit0MHl => [0xCB, 0x46]
  | .bit0A => [0xCB, 0x47]
  | .bit1B => [0xCB, 0x48]
  | .bit1C => [0xCB, 0x49]
  | .bit1D => [0xCB, 0x4A]
  | .bit1E => [0xCB, 0x4B]
  | .bit1H => [0xCB, 0x4C]
  | .bit1L => [0xCB, 0x4D]
  | .bit1MHl => [0xCB, 0x4E]
  | .bit1A => [0xCB, 0x4F]
  | .bit2B => [0xCB, 0x50]
  | .bit2C => [0xCB, 0x51]
  | .bit2D => [0xCB, 0x52]
  | .bit2E => [0xCB, 0x53]
  | .bit2H => [0xCB, 0x54]
  | .bit2L => [0xCB, 0x55]
  | .bit2MHl => [0xCB, 0x56]
  | .bit2A => [0xCB, 0x57]
  | .bit3B => [0xCB, 0x58]
  | .bit3C => [0xCB, 0x59]
  | .bit3D => [0xCB, 0x5A]
  | .bit3E => [0xCB, 0x5B]
  | .bit3H => [0xCB, 0x5C]
  | .bit3L => [0xCB, 0x5D]
  | .bit3MHl => [0xCB, 0x5E]
  | .bit3A => [0xCB, 0x5F]
  | .bit4B => [0xCB, 0x60]
  | .bit4C => [0xCB, 0x61]
  | .bit4D => [0xCB, 0x62]
  | .bit4E => [0xCB, 0x63]
  | .bit4H => [0xCB, 0x64]
  | .bit4L => [0xCB, 0x65]
  | .bit4MHl => [0xCB, 0x66]
  | .bit4A => [0xCB, 0x67]
  | .bit5B => [0xCB, 0x68]
  | .bit5C => [0xCB, 0x69]
  | .bit5D => [0xCB, 0x6A]
  | .bit5E => [0xCB, 0x6B]
  | .bit5H => [0xCB, 0x6C]
  | .bit5L => [0xCB, 0x6D]
  | .bit5MHl => [0xCB, 0x6E]
  | .bit5A => [0xCB, 0x6F]
  | .bit6B => [0xCB, 0x70]
  | .bit6C => [0xCB, 0x71]
  | .bit6D => [0xCB, 0x72]
  | .bit6E => [0xCB, 0x73]
  | .bit6H => [0xCB, 0x74]
  | .bit6L => [0xCB, 0x75]
  | .bit6MHl => [0xCB, 0x76]
  | .bit6A => [0xCB, 0x77]
  | .bit7B => [0xCB, 0x78]
  | .bit7C => [0xCB, 0x79]
  | .bit7D => [0xCB, 0x7A]
  | .bit7E => [0xCB, 0x7B]
  | .bit7H => [0xCB, 0x7C]
  | .bit7L => [0xCB, 0x7D]
  | .bit7MHl => [0xCB, 0x7E]
  | .bit7A => [0xCB, 0x7F]
  | .res0B => [0xCB, 0x80]
  | .res0C => [0xCB, 0x81]
  | .res0D => [0xCB, 0x82]
  | .res0E => [0xCB, 0x83]
  | .res0H => [0xCB, 0x84]
  | .res0L => [0xCB, 0x85]
  | .res0MHl => [0xCB, 0x86]
  | .res0A => [0xCB, 0x87]
  | .res1B => [0xCB, 0x88]
  | .res1C => [0xCB, 0x89]
  | .res1D => [0xCB, 0x8A]
  | .res1E => [0xCB, 0x8B]
  | .res1H => [0xCB, 0x8C]
  | .res1L => [0xCB, 0x8D]
  | .res1MHl => [0xCB, 0x8E]
  | .res1A => [0xCB, 0x8F]
  | .res2B => [0xCB, 0x90]
  | .res2C => [0xCB, 0x91]
  | .res2D => [0xCB, 0x92]
  | .res2E => [0xCB, 0x93]
  | .res2H => [0xCB, 0x94]
  | .res2L => [0xCB, 0x95]
  | .res2MHl => [0xCB, 0x96]
  | .res2A => [0xCB, 0x97]
  | .res3B => [0xCB, 0x98]
  | .res3C => [0xCB, 0x99]
  | .res3D => [0xCB, 0x9A]
  | .res3E => [0xCB, 0x9B]
  | .res3H => [0xCB, 0x9C]
  | .res3L => [0xCB, 0x9D]
  | .res3MHl => [0xCB, 0x9E]
  | .res3A => [0xCB, 0x9F]
  | .res4B => [0xCB, 0xA0]
  | .res4C => [0xCB, 0xA1]
  | .res4D => [0xCB, 0xA2]
  | .res4E => [0xCB, 0xA3]
  | .res4H => [0xCB, 0xA4]
  | .res4L => [0xCB, 0xA5]
  | .res4MHl => [0xCB, 0xA6]
  | .res4A => [0xCB, 0xA7]
  | .res5B => [0xCB, 0xA8]
  | .res5C => [0xCB, 0xA9]
  | .res5D => [0xCB, 0xAA]
  | .res5E => [0xCB, 0xAB]
  | .res5H => [0xCB, 0xAC]
  | .res5L => [0xCB, 0xAD]
  | .res5MHl => [0xCB, 0xAE]
  | .res5A => [0xCB, 0xAF]
  | .res6B => [0xCB, 0xB0]
  | .res6C => [0xCB, 0xB1]
  | .res6D => [0xCB, 0xB2]
  | .res6E => [0xCB, 0xB3]
  | .res6H => [0xCB, 0xB4]
  | .res6L => [0xCB, 0xB5]
  | .res6MHl => [0xCB, 0xB6]
  | .res6A => [0xCB, 0xB7]
  | .res7B => [0xCB, 0xB8]
  | .res7C => [0xCB, 0xB9]
  | .res7D => [0xCB, 0xBA]
  | .res7E => [0xCB, 0xBB]
  | .res7H => [0xCB, 0xBC]
  | .res7L => [0xCB, 0xBD]
  | .res7MHl => [0xCB, 0xBE]
  | .res7A => [0xCB, 0xBF]
  | .set0B => [0xCB, 0xC0]
  | .set0C => [0xCB, 0xC1]
  | .set0D => [0xCB, 0xC2]
  | .set0E => [0xCB, 0xC3]
  | .set0H => [0xCB, 0xC4]
  | .set0L => [0xCB, 0xC5]
  | .set0MHl => [0xCB, 0xC6]
  | .set0A => [0xCB, 0xC7]
  | .set1B => [0xCB, 0xC8]
  | .set1C => [0xCB, 0xC9]
  | .set1D => [0xCB, 0xCA]
  | .set1E => [0xCB, 0xCB]
  | .set1H => [0xCB, 0xCC]
  | .set1L => [0xCB, 0xCD]
  | .set1MHl => [0xCB, 0xCE]
  | .set1A => [0xCB, 0xCF]
  | .set2B => [0xCB, 0xD0]
  | .set2C => [0xCB, 0xD1]
  | .set2D => [0xCB, 0xD2]
  | .set2E => [0xCB, 0xD3]
  | .set2H => [0xCB, 0xD4]
  | .set2L => [0xCB, 0xD5]
  | .set2MHl => [0xCB, 0xD6]
  | .set2A => [0xCB, 0xD7]
  | .set3B => [0xCB, 0xD8]
  | .set3C => [0xCB, 0xD9]
  | .set3D => [0xCB, 0xDA]
  | .set3E => [0xCB, 0xDB]
  | .set3H => [0xCB, 0xDC]
  | .set3L => [0xCB, 0xDD]
  | .set3MHl => [0xCB, 0xDE]
  | .set3A => [0xCB, 0xDF]
  | .set4B => [0xCB, 0xE0]
  | .set4C => [0xCB, 0xE1]
  | .set4D => [0xCB, 0xE2]
  | .set4E => [0xCB, 0xE3]
  | .set4H => [0xCB, 0xE4]
  | .set4L => [0xCB, 0xE5]
  | .set4MHl => [0xCB, 0xE6]
  | .set4A => [0xCB, 0xE7]
  | .set5B => [0xCB, 0xE8]
  | .set5C => [0xCB, 0xE9]
  | .set5D => [0xCB, 0xEA]
  | .set5E => [0xCB, 0xEB]
  | .set5H => [0xCB, 0xEC]
  | .set5L => [0xCB, 0xED]
  | .set5MHl => [0xCB, 0xEE]
  | .set5A => [0xCB, 0xEF]
  | .set6B => [0xCB, 0xF0]
  | .set6C => [0xCB, 0xF1]
  | .set6D => [0xCB, 0xF2]
  | .set6E => [0xCB, 0xF3]
  | .set6H => [0xCB, 0xF4]
  | .set6L => [0xCB, 0xF5]
  | .set6MHl => [0xCB, 0xF6]
  | .set6A => [0xCB, 0xF7]
  | .set7B => [0xCB, 0xF8]
  | .set7C => [0xCB, 0xF9]
  | .set7D => [0xCB, 0xFA]
  | .set7E => [0xCB, 0xFB]
  | .set7H => [0xCB, 0xFC]
  | .set7L => [0xCB, 0xFD]
  | .set7MHl => [0xCB, 0xFE]
  | .set7A => [0xCB, 0xFF]

/-- The length in bytes of an instruction: the table's "length" column (R150). -/
def Instr.length (i : Instr) : Nat := (encode i).length

/-- The bytes of an instruction whose bits are `w`, in fetch order, padded with zero bytes to the longest instruction.
spec/opcode_table.json numbers a CB row as the 16-bit value with 0xCB in the high byte (spec/INDEX.md), and every other row with
its first byte in bits 7:0; DESIGN CHOICE (safe, log 11): a 16-bit word with 0xCB in bits 15:8 is read as a CB row, and any other
word as its first byte in bits 7:0, its second in bits 15:8 and so on. -/
def tableBytes (nbits w : Nat) : Byte × Byte × Byte :=
  let byte (k : Nat) : Byte := BitVec.ofNat 8 (w >>> (8 * k))
  if nbits = 16 ∧ byte 1 = 0xCB then (0xCB, byte 0, 0) else (byte 0, byte 1, byte 2)

/-- The instruction the decoder reads from a row of spec/opcode_table.json given as a number. -/
def decodeTableWord (nbits w : Nat) : Option Instr :=
  let (b0, b1, b2) := tableBytes nbits w
  match decode [b0, b1, b2] with
  | .ok (i, _) => some i
  | .error _ => none

end Sys2Proof
end

