-- ==== Sys2Proof/Machine/Operands.lean ====
section
/-! DEFINITION. Reading and writing the operand forms (30_encoding.md R153 to R158, 42_alu8.md R270). -/

namespace Sys2Proof.Machine

/-- Read the operand r8 (R153): a register, or the byte at HL. -/
def readOperand (t : Operand8) (s : State) (k : Byte → Exec) : Exec :=
  match t with
  | .reg r => k (s.reg r)
  | .mhl => loadThen s.hl s k

/-- Write the operand r8 (R153): a register, or the byte at HL. -/
def writeOperand (t : Operand8) (v : Byte) (s : State) (k : State → Exec) : Exec :=
  match t with
  | .reg r => k (s.setReg r v)
  | .mhl => storeThen s.hl v s k

/-- The cycles of a CB instruction: one count for a register, another for (HL) (R161). -/
def operandCycles (t : Operand8) (reg mhl : Nat) : Nat :=
  match t with
  | .reg _ => reg
  | .mhl => mhl

/-- Read the source of an ALU instruction (R270). -/
def readAluSrc (src : AluSrc) (s : State) (k : Byte → Exec) : Exec :=
  match src with
  | .reg r => k (s.reg r)
  | .mhl => loadThen s.hl s k
  | .imm n => k n

/-- The cycles of an ALU instruction by its source (R270). -/
def aluCycles : AluSrc → Nat
  | .reg _ => 4
  | .mhl => 8
  | .imm _ => 8

/-- The address held in the pair of `LD A,(rr)` or `LD (rr),A` (40_load8.md R205, R206). -/
def State.addrPair (s : State) : AddrPair → Word
  | .bc => s.bc
  | .de => s.de

/-- `Cond(cc)` (46_control.md R401). -/
def State.cond (s : State) : Cond → Bool
  | .nz => !s.zf
  | .z => s.zf
  | .nc => !s.cf
  | .c => s.cf

/-- A bit number as a number (30_encoding.md R158). -/
def bitIndex : Bit3 → Nat
  | .b0 => 0
  | .b1 => 1
  | .b2 => 2
  | .b3 => 3
  | .b4 => 4
  | .b5 => 5
  | .b6 => 6
  | .b7 => 7

/-- The target of `RST`: 8 × y (46_control.md R400). -/
def restartTarget (t : Bit3) : Word := BitVec.ofNat 16 (8 * bitIndex t)

/-- The opcode byte of a gap (30_encoding.md R160). -/
def gapOpcode : Gap → Byte
  | .gd3 => 0xD3
  | .gdb => 0xDB
  | .gdd => 0xDD
  | .ge3 => 0xE3
  | .ge4 => 0xE4
  | .geb => 0xEB
  | .gec => 0xEC
  | .ged => 0xED
  | .gf4 => 0xF4
  | .gfc => 0xFC
  | .gfd => 0xFD

end Sys2Proof.Machine
end

