-- ==== Sys2Proof/Machine/Flags.lean ====
section
/-! DEFINITION. The arithmetic of the instructions with its flags: each function computes exactly, on unbounded integers, and
narrows at the end (42_alu8.md R270, R283, 43_alu16.md, 44_rotate_shift.md). -/

namespace Sys2Proof.Machine

/-- An 8-bit result with the flags it sets. -/
structure Result8 where
  value : Byte
  z : Bool
  n : Bool
  h : Bool
  c : Bool
  deriving DecidableEq, Repr

/-- `Add8(a, b, c)` (R270). -/
def add8 (a b : Byte) (c : Bool) : Result8 :=
  let t := a.toNat + b.toNat + bitNat c
  { value := BitVec.ofNat 8 t
    z := decide (BitVec.ofNat 8 t = 0)
    n := false
    h := decide (0x0F < a.toNat % 16 + b.toNat % 16 + bitNat c)
    c := decide (0xFF < t) }

/-- `Sub8(a, b, c)` (R270). -/
def sub8 (a b : Byte) (c : Bool) : Result8 :=
  let t : Int := (a.toNat : Int) - b.toNat - bitNat c
  { value := BitVec.ofInt 8 t
    z := decide (BitVec.ofInt 8 t = 0)
    n := true
    h := decide (((a.toNat % 16 : Nat) : Int) - (b.toNat % 16 : Nat) - bitNat c < 0)
    c := decide (t < 0) }

/-- The result of AND, XOR and OR (R275 to R277): Z from the value, N and C cleared, H as given. -/
def logic8 (v : Byte) (h : Bool) : Result8 :=
  { value := v, z := decide (v = 0), n := false, h := h, c := false }

/-- The result and flags of an ALU operation on A and its source, with the carry flag in (R271 to R278). -/
def aluResult (op : AluOp) (a v : Byte) (cf : Bool) : Result8 :=
  match op with
  | .add => add8 a v false
  | .adc => add8 a v cf
  | .sub => sub8 a v false
  | .sbc => sub8 a v cf
  | .and => logic8 (a &&& v) true
  | .xor => logic8 (a ^^^ v) false
  | .or => logic8 (a ||| v) false
  | .cp => sub8 a v false

/-- Whether an ALU operation writes A: every one but CP (R278). -/
def aluWritesA : AluOp → Bool
  | .add => true
  | .adc => true
  | .sub => true
  | .sbc => true
  | .and => true
  | .xor => true
  | .or => true
  | .cp => false

/-- INC of a byte (R279): C is the flag as it was. -/
def inc8 (old : Byte) (cf : Bool) : Result8 :=
  { value := old + 1, z := decide (old + 1 = 0), n := false, h := decide (old &&& 0x0F = 0x0F), c := cf }

/-- DEC of a byte (R281): C is the flag as it was. -/
def dec8 (old : Byte) (cf : Bool) : Result8 :=
  { value := old - 1, z := decide (old - 1 = 0), n := true, h := decide (old &&& 0x0F = 0x00), c := cf }

/-- DAA after an addition (R283, N = 0): the adjusted A, before narrowing, and the new carry. -/
def daaAdd (a : Byte) (h c : Bool) : Nat × Bool :=
  let high := c || decide (0x99 < a.toNat)
  let a1 := if high then a.toNat + 0x60 else a.toNat
  (if h || decide (9 < a1 % 16) then a1 + 0x06 else a1, high)

/-- DAA after a subtraction (R283, N = 1): the adjusted A, before narrowing. -/
def daaSub (a : Byte) (h c : Bool) : Int :=
  let a1 : Int := if c then (a.toNat : Int) - 0x60 else a.toNat
  if h then a1 - 0x06 else a1

/-- DAA (R283): N is unchanged and H cleared. -/
def daaResult (a : Byte) (n h c : Bool) : Result8 :=
  if n then
    let v := BitVec.ofInt 8 (daaSub a h c)
    { value := v, z := decide (v = 0), n := true, h := false, c := c }
  else
    let r := daaAdd a h c
    let v := BitVec.ofNat 8 r.1
    { value := v, z := decide (v = 0), n := false, h := false, c := r.2 }

/-- The half-carry of `ADD HL,rr`: out of bit 11 (43_alu16.md R320). -/
def halfCarry16 (a b : Word) : Bool := decide (0x0FFF < a.toNat % 0x1000 + b.toNat % 0x1000)

/-- The carry of `ADD HL,rr`: out of bit 15 (R320). -/
def carry16 (a b : Word) : Bool := decide (0xFFFF < a.toNat + b.toNat)

/-- H of `ADD SP,e` and `LD HL,SP+e`: the carry out of bit 3 of the low byte plus the displacement byte (R323, R245). -/
def spHalfCarry (sp : Word) (e : Byte) : Bool := decide (0x0F < sp.toNat % 16 + e.toNat % 16)

/-- C of `ADD SP,e` and `LD HL,SP+e`: the carry out of bit 7 (R323, R245). -/
def spCarry (sp : Word) (e : Byte) : Bool := decide (0xFF < sp.toNat % 256 + e.toNat)

/-- A rotate or shift of a byte, with the carry flag in: the result and the carry out (44_rotate_shift.md R344 to R351). -/
def rotate (op : RotOp) (v : Byte) (cf : Bool) : Byte × Bool :=
  match op with
  | .rlc => (v.extractLsb' 0 7 ++ v.extractLsb' 7 1, v.getLsbD 7)
  | .rrc => (v.extractLsb' 0 1 ++ v.extractLsb' 1 7, v.getLsbD 0)
  | .rl => (v.extractLsb' 0 7 ++ BitVec.ofBool cf, v.getLsbD 7)
  | .rr => (BitVec.ofBool cf ++ v.extractLsb' 1 7, v.getLsbD 0)
  | .sla => (v <<< 1, v.getLsbD 7)
  | .sra => (v.sshiftRight 1, v.getLsbD 0)
  | .swap => (v.extractLsb' 0 4 ++ v.extractLsb' 4 4, false)
  | .srl => (v >>> 1, v.getLsbD 0)

/-- Write the four flags of a result. -/
def State.setResultFlags (s : State) (r : Result8) : State := s.setFlags r.z r.n r.h r.c

end Sys2Proof.Machine
end

