-- ==== Sys2Proof/Machine/Alu16.lean ====
section
/-! DEFINITION. The meanings of the 16-bit arithmetic (43_alu16.md): one definition per form of the file, and one per row of the opcode table
over it. Each runs after PC has been advanced past the instruction (60_exceptions.md R452). -/

namespace Sys2Proof.Machine

/-- `ADD HL,rr` (R320): Z is unchanged. -/
def addHlPair (p : Pair) (s : State) : Exec :=
  let a := s.hl
  let b := s.pair p
  finish 8 ((s.setHl (a + b)).setFlags s.zf false (halfCarry16 a b) (carry16 a b))

/-- `INC rr` (R321). -/
def incPair (p : Pair) (s : State) : Exec := finish 8 (s.setPair p (s.pair p + 1))

/-- `DEC rr` (R322). -/
def decPair (p : Pair) (s : State) : Exec := finish 8 (s.setPair p (s.pair p - 1))

/-- `ADD SP,e` (R323). -/
def addSpRel (e : Byte) (s : State) : Exec :=
  finish 16 ((s.setSp (s.cpu.sp + sext8 e)).setFlags false false (spHalfCarry s.cpu.sp e) (spCarry s.cpu.sp e))

/-- `INC BC` (R321). -/
def execIncBc (s : State) : Exec := incPair .bc s

/-- `ADD HL,BC` (R320). -/
def execAddHlBc (s : State) : Exec := addHlPair .bc s

/-- `DEC BC` (R322). -/
def execDecBc (s : State) : Exec := decPair .bc s

/-- `INC DE` (R321). -/
def execIncDe (s : State) : Exec := incPair .de s

/-- `ADD HL,DE` (R320). -/
def execAddHlDe (s : State) : Exec := addHlPair .de s

/-- `DEC DE` (R322). -/
def execDecDe (s : State) : Exec := decPair .de s

/-- `INC HL` (R321). -/
def execIncHl (s : State) : Exec := incPair .hl s

/-- `ADD HL,HL` (R320). -/
def execAddHlHl (s : State) : Exec := addHlPair .hl s

/-- `DEC HL` (R322). -/
def execDecHl (s : State) : Exec := decPair .hl s

/-- `INC SP` (R321). -/
def execIncSp (s : State) : Exec := incPair .sp s

/-- `ADD HL,SP` (R320). -/
def execAddHlSp (s : State) : Exec := addHlPair .sp s

/-- `DEC SP` (R322). -/
def execDecSp (s : State) : Exec := decPair .sp s

/-- `ADD SP,e` (R323). -/
def execAddSpRel (e : Byte) (s : State) : Exec := addSpRel e s

end Sys2Proof.Machine
end

