-- ==== Sys2Proof/Machine/Alu8.lean ====
section
/-! DEFINITION. The meanings of the 8-bit arithmetic and logic (42_alu8.md): one definition per form of the file, and one per row of the opcode table
over it. Each runs after PC has been advanced past the instruction (60_exceptions.md R452). -/

namespace Sys2Proof.Machine

/-- The ALU instructions ADD, ADC, SUB, SBC, AND, XOR, OR, CP on any source (R271 to R278). -/
def alu (op : AluOp) (src : AluSrc) (s : State) : Exec :=
  readAluSrc src s fun v =>
    let r := aluResult op s.cpu.a v s.cf
    finish (aluCycles src) ((if aluWritesA op then s.setReg .a r.value else s).setResultFlags r)

/-- `INC r` (R279). -/
def incReg (r : Reg8) (s : State) : Exec :=
  let x := inc8 (s.reg r) s.cf
  finish 4 ((s.setReg r x.value).setResultFlags x)

/-- `INC (HL)` (R280): read, write, then the flags. -/
def incMHl (s : State) : Exec :=
  loadThen s.hl s fun old =>
    let x := inc8 old s.cf
    storeThen s.hl x.value s fun t => finish 12 (t.setResultFlags x)

/-- `DEC r` (R281). -/
def decReg (r : Reg8) (s : State) : Exec :=
  let x := dec8 (s.reg r) s.cf
  finish 4 ((s.setReg r x.value).setResultFlags x)

/-- `DEC (HL)` (R282): read, write, then the flags. -/
def decMHl (s : State) : Exec :=
  loadThen s.hl s fun old =>
    let x := dec8 old s.cf
    storeThen s.hl x.value s fun t => finish 12 (t.setResultFlags x)

/-- `DAA` (R283). -/
def daa (s : State) : Exec :=
  let x := daaResult s.cpu.a s.nf s.hf s.cf
  finish 4 ((s.setReg .a x.value).setResultFlags x)

/-- `CPL` (R284). -/
def cpl (s : State) : Exec := finish 4 ((s.setReg .a (~~~ s.cpu.a)).setFlags s.zf true true s.cf)

/-- `SCF` (R285). -/
def scf (s : State) : Exec := finish 4 (s.setFlags s.zf false false true)

/-- `CCF` (R286). -/
def ccf (s : State) : Exec := finish 4 (s.setFlags s.zf false false (!s.cf))

/-- `INC B` (R279). -/
def execIncB (s : State) : Exec := incReg .b s

/-- `DEC B` (R281). -/
def execDecB (s : State) : Exec := decReg .b s

/-- `INC C` (R279). -/
def execIncC (s : State) : Exec := incReg .c s

/-- `DEC C` (R281). -/
def execDecC (s : State) : Exec := decReg .c s

/-- `INC D` (R279). -/
def execIncD (s : State) : Exec := incReg .d s

/-- `DEC D` (R281). -/
def execDecD (s : State) : Exec := decReg .d s

/-- `INC E` (R279). -/
def execIncE (s : State) : Exec := incReg .e s

/-- `DEC E` (R281). -/
def execDecE (s : State) : Exec := decReg .e s

/-- `INC H` (R279). -/
def execIncH (s : State) : Exec := incReg .h s

/-- `DEC H` (R281). -/
def execDecH (s : State) : Exec := decReg .h s

/-- `DAA` (R283). -/
def execDaa (s : State) : Exec := daa s

/-- `INC L` (R279). -/
def execIncL (s : State) : Exec := incReg .l s

/-- `DEC L` (R281). -/
def execDecL (s : State) : Exec := decReg .l s

/-- `CPL` (R284). -/
def execCpl (s : State) : Exec := cpl s

/-- `INC (HL)` (R280). -/
def execIncMHl (s : State) : Exec := incMHl s

/-- `DEC (HL)` (R282). -/
def execDecMHl (s : State) : Exec := decMHl s

/-- `SCF` (R285). -/
def execScf (s : State) : Exec := scf s

/-- `INC A` (R279). -/
def execIncA (s : State) : Exec := incReg .a s

/-- `DEC A` (R281). -/
def execDecA (s : State) : Exec := decReg .a s

/-- `CCF` (R286). -/
def execCcf (s : State) : Exec := ccf s

/-- `ADD A,B` (R271). -/
def execAddAB (s : State) : Exec := alu .add (.reg .b) s

/-- `ADD A,C` (R271). -/
def execAddAC (s : State) : Exec := alu .add (.reg .c) s

/-- `ADD A,D` (R271). -/
def execAddAD (s : State) : Exec := alu .add (.reg .d) s

/-- `ADD A,E` (R271). -/
def execAddAE (s : State) : Exec := alu .add (.reg .e) s

/-- `ADD A,H` (R271). -/
def execAddAH (s : State) : Exec := alu .add (.reg .h) s

/-- `ADD A,L` (R271). -/
def execAddAL (s : State) : Exec := alu .add (.reg .l) s

/-- `ADD A,(HL)` (R271). -/
def execAddAMHl (s : State) : Exec := alu .add .mhl s

/-- `ADD A,A` (R271). -/
def execAddAA (s : State) : Exec := alu .add (.reg .a) s

/-- `ADC A,B` (R272). -/
def execAdcAB (s : State) : Exec := alu .adc (.reg .b) s

/-- `ADC A,C` (R272). -/
def execAdcAC (s : State) : Exec := alu .adc (.reg .c) s

/-- `ADC A,D` (R272). -/
def execAdcAD (s : State) : Exec := alu .adc (.reg .d) s

/-- `ADC A,E` (R272). -/
def execAdcAE (s : State) : Exec := alu .adc (.reg .e) s

/-- `ADC A,H` (R272). -/
def execAdcAH (s : State) : Exec := alu .adc (.reg .h) s

/-- `ADC A,L` (R272). -/
def execAdcAL (s : State) : Exec := alu .adc (.reg .l) s

/-- `ADC A,(HL)` (R272). -/
def execAdcAMHl (s : State) : Exec := alu .adc .mhl s

/-- `ADC A,A` (R272). -/
def execAdcAA (s : State) : Exec := alu .adc (.reg .a) s

/-- `SUB B` (R273). -/
def execSubB (s : State) : Exec := alu .sub (.reg .b) s

/-- `SUB C` (R273). -/
def execSubC (s : State) : Exec := alu .sub (.reg .c) s

/-- `SUB D` (R273). -/
def execSubD (s : State) : Exec := alu .sub (.reg .d) s

/-- `SUB E` (R273). -/
def execSubE (s : State) : Exec := alu .sub (.reg .e) s

/-- `SUB H` (R273). -/
def execSubH (s : State) : Exec := alu .sub (.reg .h) s

/-- `SUB L` (R273). -/
def execSubL (s : State) : Exec := alu .sub (.reg .l) s

/-- `SUB (HL)` (R273). -/
def execSubMHl (s : State) : Exec := alu .sub .mhl s

/-- `SUB A` (R273). -/
def execSubA (s : State) : Exec := alu .sub (.reg .a) s

/-- `SBC A,B` (R274). -/
def execSbcAB (s : State) : Exec := alu .sbc (.reg .b) s

/-- `SBC A,C` (R274). -/
def execSbcAC (s : State) : Exec := alu .sbc (.reg .c) s

/-- `SBC A,D` (R274). -/
def execSbcAD (s : State) : Exec := alu .sbc (.reg .d) s

/-- `SBC A,E` (R274). -/
def execSbcAE (s : State) : Exec := alu .sbc (.reg .e) s

/-- `SBC A,H` (R274). -/
def execSbcAH (s : State) : Exec := alu .sbc (.reg .h) s

/-- `SBC A,L` (R274). -/
def execSbcAL (s : State) : Exec := alu .sbc (.reg .l) s

/-- `SBC A,(HL)` (R274). -/
def execSbcAMHl (s : State) : Exec := alu .sbc .mhl s

/-- `SBC A,A` (R274). -/
def execSbcAA (s : State) : Exec := alu .sbc (.reg .a) s

/-- `AND B` (R275). -/
def execAndB (s : State) : Exec := alu .and (.reg .b) s

/-- `AND C` (R275). -/
def execAndC (s : State) : Exec := alu .and (.reg .c) s

/-- `AND D` (R275). -/
def execAndD (s : State) : Exec := alu .and (.reg .d) s

/-- `AND E` (R275). -/
def execAndE (s : State) : Exec := alu .and (.reg .e) s

/-- `AND H` (R275). -/
def execAndH (s : State) : Exec := alu .and (.reg .h) s

/-- `AND L` (R275). -/
def execAndL (s : State) : Exec := alu .and (.reg .l) s

/-- `AND (HL)` (R275). -/
def execAndMHl (s : State) : Exec := alu .and .mhl s

/-- `AND A` (R275). -/
def execAndA (s : State) : Exec := alu .and (.reg .a) s

/-- `XOR B` (R276). -/
def execXorB (s : State) : Exec := alu .xor (.reg .b) s

/-- `XOR C` (R276). -/
def execXorC (s : State) : Exec := alu .xor (.reg .c) s

/-- `XOR D` (R276). -/
def execXorD (s : State) : Exec := alu .xor (.reg .d) s

/-- `XOR E` (R276). -/
def execXorE (s : State) : Exec := alu .xor (.reg .e) s

/-- `XOR H` (R276). -/
def execXorH (s : State) : Exec := alu .xor (.reg .h) s

/-- `XOR L` (R276). -/
def execXorL (s : State) : Exec := alu .xor (.reg .l) s

/-- `XOR (HL)` (R276). -/
def execXorMHl (s : State) : Exec := alu .xor .mhl s

/-- `XOR A` (R276). -/
def execXorA (s : State) : Exec := alu .xor (.reg .a) s

/-- `OR B` (R277). -/
def execOrB (s : State) : Exec := alu .or (.reg .b) s

/-- `OR C` (R277). -/
def execOrC (s : State) : Exec := alu .or (.reg .c) s

/-- `OR D` (R277). -/
def execOrD (s : State) : Exec := alu .or (.reg .d) s

/-- `OR E` (R277). -/
def execOrE (s : State) : Exec := alu .or (.reg .e) s

/-- `OR H` (R277). -/
def execOrH (s : State) : Exec := alu .or (.reg .h) s

/-- `OR L` (R277). -/
def execOrL (s : State) : Exec := alu .or (.reg .l) s

/-- `OR (HL)` (R277). -/
def execOrMHl (s : State) : Exec := alu .or .mhl s

/-- `OR A` (R277). -/
def execOrA (s : State) : Exec := alu .or (.reg .a) s

/-- `CP B` (R278). -/
def execCpB (s : State) : Exec := alu .cp (.reg .b) s

/-- `CP C` (R278). -/
def execCpC (s : State) : Exec := alu .cp (.reg .c) s

/-- `CP D` (R278). -/
def execCpD (s : State) : Exec := alu .cp (.reg .d) s

/-- `CP E` (R278). -/
def execCpE (s : State) : Exec := alu .cp (.reg .e) s

/-- `CP H` (R278). -/
def execCpH (s : State) : Exec := alu .cp (.reg .h) s

/-- `CP L` (R278). -/
def execCpL (s : State) : Exec := alu .cp (.reg .l) s

/-- `CP (HL)` (R278). -/
def execCpMHl (s : State) : Exec := alu .cp .mhl s

/-- `CP A` (R278). -/
def execCpA (s : State) : Exec := alu .cp (.reg .a) s

/-- `ADD A,n` (R271). -/
def execAddAImm8 (n : Byte) (s : State) : Exec := alu .add (.imm n) s

/-- `ADC A,n` (R272). -/
def execAdcAImm8 (n : Byte) (s : State) : Exec := alu .adc (.imm n) s

/-- `SUB n` (R273). -/
def execSubImm8 (n : Byte) (s : State) : Exec := alu .sub (.imm n) s

/-- `SBC A,n` (R274). -/
def execSbcAImm8 (n : Byte) (s : State) : Exec := alu .sbc (.imm n) s

/-- `AND n` (R275). -/
def execAndImm8 (n : Byte) (s : State) : Exec := alu .and (.imm n) s

/-- `XOR n` (R276). -/
def execXorImm8 (n : Byte) (s : State) : Exec := alu .xor (.imm n) s

/-- `OR n` (R277). -/
def execOrImm8 (n : Byte) (s : State) : Exec := alu .or (.imm n) s

/-- `CP n` (R278). -/
def execCpImm8 (n : Byte) (s : State) : Exec := alu .cp (.imm n) s

end Sys2Proof.Machine
end

