-- ==== Sys2Proof/Machine/Bit.lean ====
section
/-! DEFINITION. The meanings of the single-bit instructions (45_bit.md): one definition per form of the file, and one per row of the opcode table
over it. Each runs after PC has been advanced past the instruction (60_exceptions.md R452). -/

namespace Sys2Proof.Machine

/-- `BIT b,t` (R370): C is unchanged and t is not written. -/
def bit (b : Bit3) (t : Operand8) (s : State) : Exec :=
  readOperand t s fun v => finish (operandCycles t 8 12) (s.setFlags (!v.getLsbD (bitIndex b)) false true s.cf)

/-- `RES b,t` (R371). -/
def res (b : Bit3) (t : Operand8) (s : State) : Exec :=
  readOperand t s fun v => writeOperand t (v &&& ~~~ (1#8 <<< bitIndex b)) s (finish (operandCycles t 8 16))

/-- `SET b,t` (R372). -/
def set (b : Bit3) (t : Operand8) (s : State) : Exec :=
  readOperand t s fun v => writeOperand t (v ||| 1#8 <<< bitIndex b) s (finish (operandCycles t 8 16))

/-- `BIT 0,B` (R370). -/
def execBit0B (s : State) : Exec := bit .b0 (.reg .b) s

/-- `BIT 0,C` (R370). -/
def execBit0C (s : State) : Exec := bit .b0 (.reg .c) s

/-- `BIT 0,D` (R370). -/
def execBit0D (s : State) : Exec := bit .b0 (.reg .d) s

/-- `BIT 0,E` (R370). -/
def execBit0E (s : State) : Exec := bit .b0 (.reg .e) s

/-- `BIT 0,H` (R370). -/
def execBit0H (s : State) : Exec := bit .b0 (.reg .h) s

/-- `BIT 0,L` (R370). -/
def execBit0L (s : State) : Exec := bit .b0 (.reg .l) s

/-- `BIT 0,(HL)` (R370). -/
def execBit0MHl (s : State) : Exec := bit .b0 .mhl s

/-- `BIT 0,A` (R370). -/
def execBit0A (s : State) : Exec := bit .b0 (.reg .a) s

/-- `BIT 1,B` (R370). -/
def execBit1B (s : State) : Exec := bit .b1 (.reg .b) s

/-- `BIT 1,C` (R370). -/
def execBit1C (s : State) : Exec := bit .b1 (.reg .c) s

/-- `BIT 1,D` (R370). -/
def execBit1D (s : State) : Exec := bit .b1 (.reg .d) s

/-- `BIT 1,E` (R370). -/
def execBit1E (s : State) : Exec := bit .b1 (.reg .e) s

/-- `BIT 1,H` (R370). -/
def execBit1H (s : State) : Exec := bit .b1 (.reg .h) s

/-- `BIT 1,L` (R370). -/
def execBit1L (s : State) : Exec := bit .b1 (.reg .l) s

/-- `BIT 1,(HL)` (R370). -/
def execBit1MHl (s : State) : Exec := bit .b1 .mhl s

/-- `BIT 1,A` (R370). -/
def execBit1A (s : State) : Exec := bit .b1 (.reg .a) s

/-- `BIT 2,B` (R370). -/
def execBit2B (s : State) : Exec := bit .b2 (.reg .b) s

/-- `BIT 2,C` (R370). -/
def execBit2C (s : State) : Exec := bit .b2 (.reg .c) s

/-- `BIT 2,D` (R370). -/
def execBit2D (s : State) : Exec := bit .b2 (.reg .d) s

/-- `BIT 2,E` (R370). -/
def execBit2E (s : State) : Exec := bit .b2 (.reg .e) s

/-- `BIT 2,H` (R370). -/
def execBit2H (s : State) : Exec := bit .b2 (.reg .h) s

/-- `BIT 2,L` (R370). -/
def execBit2L (s : State) : Exec := bit .b2 (.reg .l) s

/-- `BIT 2,(HL)` (R370). -/
def execBit2MHl (s : State) : Exec := bit .b2 .mhl s

/-- `BIT 2,A` (R370). -/
def execBit2A (s : State) : Exec := bit .b2 (.reg .a) s

/-- `BIT 3,B` (R370). -/
def execBit3B (s : State) : Exec := bit .b3 (.reg .b) s

/-- `BIT 3,C` (R370). -/
def execBit3C (s : State) : Exec := bit .b3 (.reg .c) s

/-- `BIT 3,D` (R370). -/
def execBit3D (s : State) : Exec := bit .b3 (.reg .d) s

/-- `BIT 3,E` (R370). -/
def execBit3E (s : State) : Exec := bit .b3 (.reg .e) s

/-- `BIT 3,H` (R370). -/
def execBit3H (s : State) : Exec := bit .b3 (.reg .h) s

/-- `BIT 3,L` (R370). -/
def execBit3L (s : State) : Exec := bit .b3 (.reg .l) s

/-- `BIT 3,(HL)` (R370). -/
def execBit3MHl (s : State) : Exec := bit .b3 .mhl s

/-- `BIT 3,A` (R370). -/
def execBit3A (s : State) : Exec := bit .b3 (.reg .a) s

/-- `BIT 4,B` (R370). -/
def execBit4B (s : State) : Exec := bit .b4 (.reg .b) s

/-- `BIT 4,C` (R370). -/
def execBit4C (s : State) : Exec := bit .b4 (.reg .c) s

/-- `BIT 4,D` (R370). -/
def execBit4D (s : State) : Exec := bit .b4 (.reg .d) s

/-- `BIT 4,E` (R370). -/
def execBit4E (s : State) : Exec := bit .b4 (.reg .e) s

/-- `BIT 4,H` (R370). -/
def execBit4H (s : State) : Exec := bit .b4 (.reg .h) s

/-- `BIT 4,L` (R370). -/
def execBit4L (s : State) : Exec := bit .b4 (.reg .l) s

/-- `BIT 4,(HL)` (R370). -/
def execBit4MHl (s : State) : Exec := bit .b4 .mhl s

/-- `BIT 4,A` (R370). -/
def execBit4A (s : State) : Exec := bit .b4 (.reg .a) s

/-- `BIT 5,B` (R370). -/
def execBit5B (s : State) : Exec := bit .b5 (.reg .b) s

/-- `BIT 5,C` (R370). -/
def execBit5C (s : State) : Exec := bit .b5 (.reg .c) s

/-- `BIT 5,D` (R370). -/
def execBit5D (s : State) : Exec := bit .b5 (.reg .d) s

/-- `BIT 5,E` (R370). -/
def execBit5E (s : State) : Exec := bit .b5 (.reg .e) s

/-- `BIT 5,H` (R370). -/
def execBit5H (s : State) : Exec := bit .b5 (.reg .h) s

/-- `BIT 5,L` (R370). -/
def execBit5L (s : State) : Exec := bit .b5 (.reg .l) s

/-- `BIT 5,(HL)` (R370). -/
def execBit5MHl (s : State) : Exec := bit .b5 .mhl s

/-- `BIT 5,A` (R370). -/
def execBit5A (s : State) : Exec := bit .b5 (.reg .a) s

/-- `BIT 6,B` (R370). -/
def execBit6B (s : State) : Exec := bit .b6 (.reg .b) s

/-- `BIT 6,C` (R370). -/
def execBit6C (s : State) : Exec := bit .b6 (.reg .c) s

/-- `BIT 6,D` (R370). -/
def execBit6D (s : State) : Exec := bit .b6 (.reg .d) s

/-- `BIT 6,E` (R370). -/
def execBit6E (s : State) : Exec := bit .b6 (.reg .e) s

/-- `BIT 6,H` (R370). -/
def execBit6H (s : State) : Exec := bit .b6 (.reg .h) s

/-- `BIT 6,L` (R370). -/
def execBit6L (s : State) : Exec := bit .b6 (.reg .l) s

/-- `BIT 6,(HL)` (R370). -/
def execBit6MHl (s : State) : Exec := bit .b6 .mhl s

/-- `BIT 6,A` (R370). -/
def execBit6A (s : State) : Exec := bit .b6 (.reg .a) s

/-- `BIT 7,B` (R370). -/
def execBit7B (s : State) : Exec := bit .b7 (.reg .b) s

/-- `BIT 7,C` (R370). -/
def execBit7C (s : State) : Exec := bit .b7 (.reg .c) s

/-- `BIT 7,D` (R370). -/
def execBit7D (s : State) : Exec := bit .b7 (.reg .d) s

/-- `BIT 7,E` (R370). -/
def execBit7E (s : State) : Exec := bit .b7 (.reg .e) s

/-- `BIT 7,H` (R370). -/
def execBit7H (s : State) : Exec := bit .b7 (.reg .h) s

/-- `BIT 7,L` (R370). -/
def execBit7L (s : State) : Exec := bit .b7 (.reg .l) s

/-- `BIT 7,(HL)` (R370). -/
def execBit7MHl (s : State) : Exec := bit .b7 .mhl s

/-- `BIT 7,A` (R370). -/
def execBit7A (s : State) : Exec := bit .b7 (.reg .a) s

/-- `RES 0,B` (R371). -/
def execRes0B (s : State) : Exec := res .b0 (.reg .b) s

/-- `RES 0,C` (R371). -/
def execRes0C (s : State) : Exec := res .b0 (.reg .c) s

/-- `RES 0,D` (R371). -/
def execRes0D (s : State) : Exec := res .b0 (.reg .d) s

/-- `RES 0,E` (R371). -/
def execRes0E (s : State) : Exec := res .b0 (.reg .e) s

/-- `RES 0,H` (R371). -/
def execRes0H (s : State) : Exec := res .b0 (.reg .h) s

/-- `RES 0,L` (R371). -/
def execRes0L (s : State) : Exec := res .b0 (.reg .l) s

/-- `RES 0,(HL)` (R371). -/
def execRes0MHl (s : State) : Exec := res .b0 .mhl s

/-- `RES 0,A` (R371). -/
def execRes0A (s : State) : Exec := res .b0 (.reg .a) s

/-- `RES 1,B` (R371). -/
def execRes1B (s : State) : Exec := res .b1 (.reg .b) s

/-- `RES 1,C` (R371). -/
def execRes1C (s : State) : Exec := res .b1 (.reg .c) s

/-- `RES 1,D` (R371). -/
def execRes1D (s : State) : Exec := res .b1 (.reg .d) s

/-- `RES 1,E` (R371). -/
def execRes1E (s : State) : Exec := res .b1 (.reg .e) s

/-- `RES 1,H` (R371). -/
def execRes1H (s : State) : Exec := res .b1 (.reg .h) s

/-- `RES 1,L` (R371). -/
def execRes1L (s : State) : Exec := res .b1 (.reg .l) s

/-- `RES 1,(HL)` (R371). -/
def execRes1MHl (s : State) : Exec := res .b1 .mhl s

/-- `RES 1,A` (R371). -/
def execRes1A (s : State) : Exec := res .b1 (.reg .a) s

/-- `RES 2,B` (R371). -/
def execRes2B (s : State) : Exec := res .b2 (.reg .b) s

/-- `RES 2,C` (R371). -/
def execRes2C (s : State) : Exec := res .b2 (.reg .c) s

/-- `RES 2,D` (R371). -/
def execRes2D (s : State) : Exec := res .b2 (.reg .d) s

/-- `RES 2,E` (R371). -/
def execRes2E (s : State) : Exec := res .b2 (.reg .e) s

/-- `RES 2,H` (R371). -/
def execRes2H (s : State) : Exec := res .b2 (.reg .h) s

/-- `RES 2,L` (R371). -/
def execRes2L (s : State) : Exec := res .b2 (.reg .l) s

/-- `RES 2,(HL)` (R371). -/
def execRes2MHl (s : State) : Exec := res .b2 .mhl s

/-- `RES 2,A` (R371). -/
def execRes2A (s : State) : Exec := res .b2 (.reg .a) s

/-- `RES 3,B` (R371). -/
def execRes3B (s : State) : Exec := res .b3 (.reg .b) s

/-- `RES 3,C` (R371). -/
def execRes3C (s : State) : Exec := res .b3 (.reg .c) s

/-- `RES 3,D` (R371). -/
def execRes3D (s : State) : Exec := res .b3 (.reg .d) s

/-- `RES 3,E` (R371). -/
def execRes3E (s : State) : Exec := res .b3 (.reg .e) s

/-- `RES 3,H` (R371). -/
def execRes3H (s : State) : Exec := res .b3 (.reg .h) s

/-- `RES 3,L` (R371). -/
def execRes3L (s : State) : Exec := res .b3 (.reg .l) s

/-- `RES 3,(HL)` (R371). -/
def execRes3MHl (s : State) : Exec := res .b3 .mhl s

/-- `RES 3,A` (R371). -/
def execRes3A (s : State) : Exec := res .b3 (.reg .a) s

/-- `RES 4,B` (R371). -/
def execRes4B (s : State) : Exec := res .b4 (.reg .b) s

/-- `RES 4,C` (R371). -/
def execRes4C (s : State) : Exec := res .b4 (.reg .c) s

/-- `RES 4,D` (R371). -/
def execRes4D (s : State) : Exec := res .b4 (.reg .d) s

/-- `RES 4,E` (R371). -/
def execRes4E (s : State) : Exec := res .b4 (.reg .e) s

/-- `RES 4,H` (R371). -/
def execRes4H (s : State) : Exec := res .b4 (.reg .h) s

/-- `RES 4,L` (R371). -/
def execRes4L (s : State) : Exec := res .b4 (.reg .l) s

/-- `RES 4,(HL)` (R371). -/
def execRes4MHl (s : State) : Exec := res .b4 .mhl s

/-- `RES 4,A` (R371). -/
def execRes4A (s : State) : Exec := res .b4 (.reg .a) s

/-- `RES 5,B` (R371). -/
def execRes5B (s : State) : Exec := res .b5 (.reg .b) s

/-- `RES 5,C` (R371). -/
def execRes5C (s : State) : Exec := res .b5 (.reg .c) s

/-- `RES 5,D` (R371). -/
def execRes5D (s : State) : Exec := res .b5 (.reg .d) s

/-- `RES 5,E` (R371). -/
def execRes5E (s : State) : Exec := res .b5 (.reg .e) s

/-- `RES 5,H` (R371). -/
def execRes5H (s : State) : Exec := res .b5 (.reg .h) s

/-- `RES 5,L` (R371). -/
def execRes5L (s : State) : Exec := res .b5 (.reg .l) s

/-- `RES 5,(HL)` (R371). -/
def execRes5MHl (s : State) : Exec := res .b5 .mhl s

/-- `RES 5,A` (R371). -/
def execRes5A (s : State) : Exec := res .b5 (.reg .a) s

/-- `RES 6,B` (R371). -/
def execRes6B (s : State) : Exec := res .b6 (.reg .b) s

/-- `RES 6,C` (R371). -/
def execRes6C (s : State) : Exec := res .b6 (.reg .c) s

/-- `RES 6,D` (R371). -/
def execRes6D (s : State) : Exec := res .b6 (.reg .d) s

/-- `RES 6,E` (R371). -/
def execRes6E (s : State) : Exec := res .b6 (.reg .e) s

/-- `RES 6,H` (R371). -/
def execRes6H (s : State) : Exec := res .b6 (.reg .h) s

/-- `RES 6,L` (R371). -/
def execRes6L (s : State) : Exec := res .b6 (.reg .l) s

/-- `RES 6,(HL)` (R371). -/
def execRes6MHl (s : State) : Exec := res .b6 .mhl s

/-- `RES 6,A` (R371). -/
def execRes6A (s : State) : Exec := res .b6 (.reg .a) s

/-- `RES 7,B` (R371). -/
def execRes7B (s : State) : Exec := res .b7 (.reg .b) s

/-- `RES 7,C` (R371). -/
def execRes7C (s : State) : Exec := res .b7 (.reg .c) s

/-- `RES 7,D` (R371). -/
def execRes7D (s : State) : Exec := res .b7 (.reg .d) s

/-- `RES 7,E` (R371). -/
def execRes7E (s : State) : Exec := res .b7 (.reg .e) s

/-- `RES 7,H` (R371). -/
def execRes7H (s : State) : Exec := res .b7 (.reg .h) s

/-- `RES 7,L` (R371). -/
def execRes7L (s : State) : Exec := res .b7 (.reg .l) s

/-- `RES 7,(HL)` (R371). -/
def execRes7MHl (s : State) : Exec := res .b7 .mhl s

/-- `RES 7,A` (R371). -/
def execRes7A (s : State) : Exec := res .b7 (.reg .a) s

/-- `SET 0,B` (R372). -/
def execSet0B (s : State) : Exec := set .b0 (.reg .b) s

/-- `SET 0,C` (R372). -/
def execSet0C (s : State) : Exec := set .b0 (.reg .c) s

/-- `SET 0,D` (R372). -/
def execSet0D (s : State) : Exec := set .b0 (.reg .d) s

/-- `SET 0,E` (R372). -/
def execSet0E (s : State) : Exec := set .b0 (.reg .e) s

/-- `SET 0,H` (R372). -/
def execSet0H (s : State) : Exec := set .b0 (.reg .h) s

/-- `SET 0,L` (R372). -/
def execSet0L (s : State) : Exec := set .b0 (.reg .l) s

/-- `SET 0,(HL)` (R372). -/
def execSet0MHl (s : State) : Exec := set .b0 .mhl s

/-- `SET 0,A` (R372). -/
def execSet0A (s : State) : Exec := set .b0 (.reg .a) s

/-- `SET 1,B` (R372). -/
def execSet1B (s : State) : Exec := set .b1 (.reg .b) s

/-- `SET 1,C` (R372). -/
def execSet1C (s : State) : Exec := set .b1 (.reg .c) s

/-- `SET 1,D` (R372). -/
def execSet1D (s : State) : Exec := set .b1 (.reg .d) s

/-- `SET 1,E` (R372). -/
def execSet1E (s : State) : Exec := set .b1 (.reg .e) s

/-- `SET 1,H` (R372). -/
def execSet1H (s : State) : Exec := set .b1 (.reg .h) s

/-- `SET 1,L` (R372). -/
def execSet1L (s : State) : Exec := set .b1 (.reg .l) s

/-- `SET 1,(HL)` (R372). -/
def execSet1MHl (s : State) : Exec := set .b1 .mhl s

/-- `SET 1,A` (R372). -/
def execSet1A (s : State) : Exec := set .b1 (.reg .a) s

/-- `SET 2,B` (R372). -/
def execSet2B (s : State) : Exec := set .b2 (.reg .b) s

/-- `SET 2,C` (R372). -/
def execSet2C (s : State) : Exec := set .b2 (.reg .c) s

/-- `SET 2,D` (R372). -/
def execSet2D (s : State) : Exec := set .b2 (.reg .d) s

/-- `SET 2,E` (R372). -/
def execSet2E (s : State) : Exec := set .b2 (.reg .e) s

/-- `SET 2,H` (R372). -/
def execSet2H (s : State) : Exec := set .b2 (.reg .h) s

/-- `SET 2,L` (R372). -/
def execSet2L (s : State) : Exec := set .b2 (.reg .l) s

/-- `SET 2,(HL)` (R372). -/
def execSet2MHl (s : State) : Exec := set .b2 .mhl s

/-- `SET 2,A` (R372). -/
def execSet2A (s : State) : Exec := set .b2 (.reg .a) s

/-- `SET 3,B` (R372). -/
def execSet3B (s : State) : Exec := set .b3 (.reg .b) s

/-- `SET 3,C` (R372). -/
def execSet3C (s : State) : Exec := set .b3 (.reg .c) s

/-- `SET 3,D` (R372). -/
def execSet3D (s : State) : Exec := set .b3 (.reg .d) s

/-- `SET 3,E` (R372). -/
def execSet3E (s : State) : Exec := set .b3 (.reg .e) s

/-- `SET 3,H` (R372). -/
def execSet3H (s : State) : Exec := set .b3 (.reg .h) s

/-- `SET 3,L` (R372). -/
def execSet3L (s : State) : Exec := set .b3 (.reg .l) s

/-- `SET 3,(HL)` (R372). -/
def execSet3MHl (s : State) : Exec := set .b3 .mhl s

/-- `SET 3,A` (R372). -/
def execSet3A (s : State) : Exec := set .b3 (.reg .a) s

/-- `SET 4,B` (R372). -/
def execSet4B (s : State) : Exec := set .b4 (.reg .b) s

/-- `SET 4,C` (R372). -/
def execSet4C (s : State) : Exec := set .b4 (.reg .c) s

/-- `SET 4,D` (R372). -/
def execSet4D (s : State) : Exec := set .b4 (.reg .d) s

/-- `SET 4,E` (R372). -/
def execSet4E (s : State) : Exec := set .b4 (.reg .e) s

/-- `SET 4,H` (R372). -/
def execSet4H (s : State) : Exec := set .b4 (.reg .h) s

/-- `SET 4,L` (R372). -/
def execSet4L (s : State) : Exec := set .b4 (.reg .l) s

/-- `SET 4,(HL)` (R372). -/
def execSet4MHl (s : State) : Exec := set .b4 .mhl s

/-- `SET 4,A` (R372). -/
def execSet4A (s : State) : Exec := set .b4 (.reg .a) s

/-- `SET 5,B` (R372). -/
def execSet5B (s : State) : Exec := set .b5 (.reg .b) s

/-- `SET 5,C` (R372). -/
def execSet5C (s : State) : Exec := set .b5 (.reg .c) s

/-- `SET 5,D` (R372). -/
def execSet5D (s : State) : Exec := set .b5 (.reg .d) s

/-- `SET 5,E` (R372). -/
def execSet5E (s : State) : Exec := set .b5 (.reg .e) s

/-- `SET 5,H` (R372). -/
def execSet5H (s : State) : Exec := set .b5 (.reg .h) s

/-- `SET 5,L` (R372). -/
def execSet5L (s : State) : Exec := set .b5 (.reg .l) s

/-- `SET 5,(HL)` (R372). -/
def execSet5MHl (s : State) : Exec := set .b5 .mhl s

/-- `SET 5,A` (R372). -/
def execSet5A (s : State) : Exec := set .b5 (.reg .a) s

/-- `SET 6,B` (R372). -/
def execSet6B (s : State) : Exec := set .b6 (.reg .b) s

/-- `SET 6,C` (R372). -/
def execSet6C (s : State) : Exec := set .b6 (.reg .c) s

/-- `SET 6,D` (R372). -/
def execSet6D (s : State) : Exec := set .b6 (.reg .d) s

/-- `SET 6,E` (R372). -/
def execSet6E (s : State) : Exec := set .b6 (.reg .e) s

/-- `SET 6,H` (R372). -/
def execSet6H (s : State) : Exec := set .b6 (.reg .h) s

/-- `SET 6,L` (R372). -/
def execSet6L (s : State) : Exec := set .b6 (.reg .l) s

/-- `SET 6,(HL)` (R372). -/
def execSet6MHl (s : State) : Exec := set .b6 .mhl s

/-- `SET 6,A` (R372). -/
def execSet6A (s : State) : Exec := set .b6 (.reg .a) s

/-- `SET 7,B` (R372). -/
def execSet7B (s : State) : Exec := set .b7 (.reg .b) s

/-- `SET 7,C` (R372). -/
def execSet7C (s : State) : Exec := set .b7 (.reg .c) s

/-- `SET 7,D` (R372). -/
def execSet7D (s : State) : Exec := set .b7 (.reg .d) s

/-- `SET 7,E` (R372). -/
def execSet7E (s : State) : Exec := set .b7 (.reg .e) s

/-- `SET 7,H` (R372). -/
def execSet7H (s : State) : Exec := set .b7 (.reg .h) s

/-- `SET 7,L` (R372). -/
def execSet7L (s : State) : Exec := set .b7 (.reg .l) s

/-- `SET 7,(HL)` (R372). -/
def execSet7MHl (s : State) : Exec := set .b7 .mhl s

/-- `SET 7,A` (R372). -/
def execSet7A (s : State) : Exec := set .b7 (.reg .a) s

end Sys2Proof.Machine
end

