-- ==== Sys2Proof/Machine/Control.lean ====
section
/-! DEFINITION. The meanings of the control transfers (46_control.md): one definition per form of the file, and one per row of the opcode table
over it. Each runs after PC has been advanced past the instruction (60_exceptions.md R452). -/

namespace Sys2Proof.Machine

/-- `JP nn` (R390). -/
def jp (nn : Word) (s : State) : Exec := finish 16 (s.setPc nn)

/-- `JP cc,nn` (R391). -/
def jpCond (cc : Cond) (nn : Word) (s : State) : Exec := if s.cond cc then finish 16 (s.setPc nn) else finish 12 s

/-- `JP HL` (R392). -/
def jpHl (s : State) : Exec := finish 4 (s.setPc s.hl)

/-- `JR e` (R393): PC is the address of the next instruction. -/
def jr (e : Byte) (s : State) : Exec := finish 12 (s.setPc (s.cpu.pc + sext8 e))

/-- `JR cc,e` (R394). -/
def jrCond (cc : Cond) (e : Byte) (s : State) : Exec :=
  if s.cond cc then finish 12 (s.setPc (s.cpu.pc + sext8 e)) else finish 8 s

/-- `CALL nn` (R395). -/
def call (nn : Word) (s : State) : Exec := pushThen s.cpu.pc s fun t => finish 24 (t.setPc nn)

/-- `CALL cc,nn` (R396). -/
def callCond (cc : Cond) (nn : Word) (s : State) : Exec :=
  if s.cond cc then pushThen s.cpu.pc s fun t => finish 24 (t.setPc nn) else finish 12 s

/-- `RET` (R397). -/
def ret (s : State) : Exec := popThen s fun v t => finish 16 (t.setPc v)

/-- `RET cc` (R398). -/
def retCond (cc : Cond) (s : State) : Exec :=
  if s.cond cc then popThen s fun v t => finish 20 (t.setPc v) else finish 8 s

/-- `RETI` (R399). -/
def reti (s : State) : Exec := returnFromIrq s

/-- `RST t` (R400). -/
def rst (t : Bit3) (s : State) : Exec := pushThen s.cpu.pc s fun u => finish 16 (u.setPc (restartTarget t))

/-- `JR e` (R393). -/
def execJrRel (e : Byte) (s : State) : Exec := jr e s

/-- `JR NZ,e` (R394). -/
def execJrNzRel (e : Byte) (s : State) : Exec := jrCond .nz e s

/-- `JR Z,e` (R394). -/
def execJrZRel (e : Byte) (s : State) : Exec := jrCond .z e s

/-- `JR NC,e` (R394). -/
def execJrNcRel (e : Byte) (s : State) : Exec := jrCond .nc e s

/-- `JR C,e` (R394). -/
def execJrCRel (e : Byte) (s : State) : Exec := jrCond .c e s

/-- `RET NZ` (R398). -/
def execRetNz (s : State) : Exec := retCond .nz s

/-- `JP NZ,nn` (R391). -/
def execJpNzImm16 (nn : Word) (s : State) : Exec := jpCond .nz nn s

/-- `JP nn` (R390). -/
def execJpImm16 (nn : Word) (s : State) : Exec := jp nn s

/-- `CALL NZ,nn` (R396). -/
def execCallNzImm16 (nn : Word) (s : State) : Exec := callCond .nz nn s

/-- `RST 00H` (R400). -/
def execRst00 (s : State) : Exec := rst .b0 s

/-- `RET Z` (R398). -/
def execRetZ (s : State) : Exec := retCond .z s

/-- `RET` (R397). -/
def execRet (s : State) : Exec := ret s

/-- `JP Z,nn` (R391). -/
def execJpZImm16 (nn : Word) (s : State) : Exec := jpCond .z nn s

/-- `CALL Z,nn` (R396). -/
def execCallZImm16 (nn : Word) (s : State) : Exec := callCond .z nn s

/-- `CALL nn` (R395). -/
def execCallImm16 (nn : Word) (s : State) : Exec := call nn s

/-- `RST 08H` (R400). -/
def execRst08 (s : State) : Exec := rst .b1 s

/-- `RET NC` (R398). -/
def execRetNc (s : State) : Exec := retCond .nc s

/-- `JP NC,nn` (R391). -/
def execJpNcImm16 (nn : Word) (s : State) : Exec := jpCond .nc nn s

/-- `CALL NC,nn` (R396). -/
def execCallNcImm16 (nn : Word) (s : State) : Exec := callCond .nc nn s

/-- `RST 10H` (R400). -/
def execRst10 (s : State) : Exec := rst .b2 s

/-- `RET C` (R398). -/
def execRetC (s : State) : Exec := retCond .c s

/-- `RETI` (R399). -/
def execReti (s : State) : Exec := reti s

/-- `JP C,nn` (R391). -/
def execJpCImm16 (nn : Word) (s : State) : Exec := jpCond .c nn s

/-- `CALL C,nn` (R396). -/
def execCallCImm16 (nn : Word) (s : State) : Exec := callCond .c nn s

/-- `RST 18H` (R400). -/
def execRst18 (s : State) : Exec := rst .b3 s

/-- `RST 20H` (R400). -/
def execRst20 (s : State) : Exec := rst .b4 s

/-- `JP HL` (R392). -/
def execJpHl (s : State) : Exec := jpHl s

/-- `RST 28H` (R400). -/
def execRst28 (s : State) : Exec := rst .b5 s

/-- `RST 30H` (R400). -/
def execRst30 (s : State) : Exec := rst .b6 s

/-- `RST 38H` (R400). -/
def execRst38 (s : State) : Exec := rst .b7 s

end Sys2Proof.Machine
end

