-- ==== Sys2Proof/Machine/Load16.lean ====
section
/-! DEFINITION. The meanings of the 16-bit loads and the stack (41_load16.md): one definition per form of the file, and one per row of the opcode table
over it. Each runs after PC has been advanced past the instruction (60_exceptions.md R452). -/

namespace Sys2Proof.Machine

/-- `LD rr,nn` (R240). -/
def ldPairImm (p : Pair) (nn : Word) (s : State) : Exec := finish 12 (s.setPair p nn)

/-- `LD (nn),SP` (R241): the low byte at nn, then the high byte at nn + 1; a fault of the second leaves the first made. -/
def ldMImm16Sp (nn : Word) (s : State) : Exec :=
  storeThen nn (loByte s.cpu.sp) s fun t => storeThen (nn + 1) (hiByte s.cpu.sp) t (finish 20)

/-- `LD SP,HL` (R242). -/
def ldSpHl (s : State) : Exec := finish 8 (s.setSp s.hl)

/-- `PUSH rr` (R243). -/
def push (p : StackPair) (s : State) : Exec := pushThen (s.stackPair p) s (finish 16)

/-- `POP rr` (R244). -/
def pop (p : StackPair) (s : State) : Exec := popThen s fun v t => finish 12 (t.setStackPair p v)

/-- `LD HL,SP+e` (R245). -/
def ldHlSpRel (e : Byte) (s : State) : Exec :=
  finish 12 ((s.setHl (s.cpu.sp + sext8 e)).setFlags false false (spHalfCarry s.cpu.sp e) (spCarry s.cpu.sp e))

/-- `LD BC,nn` (R240). -/
def execLdBcImm16 (nn : Word) (s : State) : Exec := ldPairImm .bc nn s

/-- `LD (nn),SP` (R241). -/
def execLdMImm16Sp (nn : Word) (s : State) : Exec := ldMImm16Sp nn s

/-- `LD DE,nn` (R240). -/
def execLdDeImm16 (nn : Word) (s : State) : Exec := ldPairImm .de nn s

/-- `LD HL,nn` (R240). -/
def execLdHlImm16 (nn : Word) (s : State) : Exec := ldPairImm .hl nn s

/-- `LD SP,nn` (R240). -/
def execLdSpImm16 (nn : Word) (s : State) : Exec := ldPairImm .sp nn s

/-- `POP BC` (R244). -/
def execPopBc (s : State) : Exec := pop .bc s

/-- `PUSH BC` (R243). -/
def execPushBc (s : State) : Exec := push .bc s

/-- `POP DE` (R244). -/
def execPopDe (s : State) : Exec := pop .de s

/-- `PUSH DE` (R243). -/
def execPushDe (s : State) : Exec := push .de s

/-- `POP HL` (R244). -/
def execPopHl (s : State) : Exec := pop .hl s

/-- `PUSH HL` (R243). -/
def execPushHl (s : State) : Exec := push .hl s

/-- `POP AF` (R244). -/
def execPopAf (s : State) : Exec := pop .af s

/-- `PUSH AF` (R243). -/
def execPushAf (s : State) : Exec := push .af s

/-- `LD HL,SP+e` (R245). -/
def execLdHlSpRel (e : Byte) (s : State) : Exec := ldHlSpRel e s

/-- `LD SP,HL` (R242). -/
def execLdSpHl (s : State) : Exec := ldSpHl s

end Sys2Proof.Machine
end

