-- ==== Sys2Proof/Machine/Load8.lean ====
section
/-! DEFINITION. The meanings of the 8-bit loads (40_load8.md): one definition per form of the file, and one per row of the opcode table
over it. Each runs after PC has been advanced past the instruction (60_exceptions.md R452). -/

namespace Sys2Proof.Machine

/-- `LD r,r'` (R200). -/
def ldRegReg (dst src : Reg8) (s : State) : Exec := finish 4 (s.setReg dst (s.reg src))

/-- `LD r,n` (R201). -/
def ldRegImm (dst : Reg8) (n : Byte) (s : State) : Exec := finish 8 (s.setReg dst n)

/-- `LD r,(HL)` (R202). -/
def ldRegMHl (dst : Reg8) (s : State) : Exec := loadThen s.hl s fun v => finish 8 (s.setReg dst v)

/-- `LD (HL),r` (R203). -/
def ldMHlReg (src : Reg8) (s : State) : Exec := storeThen s.hl (s.reg src) s (finish 8)

/-- `LD (HL),n` (R204). -/
def ldMHlImm (n : Byte) (s : State) : Exec := storeThen s.hl n s (finish 12)

/-- `LD A,(BC)` and `LD A,(DE)` (R205). -/
def ldAMPair (p : AddrPair) (s : State) : Exec := loadThen (s.addrPair p) s fun v => finish 8 (s.setReg .a v)

/-- `LD (BC),A` and `LD (DE),A` (R206). -/
def ldMPairA (p : AddrPair) (s : State) : Exec := storeThen (s.addrPair p) s.cpu.a s (finish 8)

/-- `LD A,(nn)` (R207). -/
def ldAMImm16 (nn : Word) (s : State) : Exec := loadThen nn s fun v => finish 16 (s.setReg .a v)

/-- `LD (nn),A` (R208). -/
def ldMImm16A (nn : Word) (s : State) : Exec := storeThen nn s.cpu.a s (finish 16)

/-- `LDH A,(n)` (R209). -/
def ldhAMN (n : Byte) (s : State) : Exec := loadThen (highPage n) s fun v => finish 12 (s.setReg .a v)

/-- `LDH (n),A` (R210). -/
def ldhMNA (n : Byte) (s : State) : Exec := storeThen (highPage n) s.cpu.a s (finish 12)

/-- `LD A,(C)` (R211). -/
def ldAMC (s : State) : Exec := loadThen (highPage s.cpu.c) s fun v => finish 8 (s.setReg .a v)

/-- `LD (C),A` (R212). -/
def ldMCA (s : State) : Exec := storeThen (highPage s.cpu.c) s.cpu.a s (finish 8)

/-- `LD (HL+),A` (R213): on a fault HL is not incremented. -/
def ldMHlIncA (s : State) : Exec := storeThen s.hl s.cpu.a s fun t => finish 8 (t.setHl (s.hl + 1))

/-- `LD (HL-),A` (R214): on a fault HL is not decremented. -/
def ldMHlDecA (s : State) : Exec := storeThen s.hl s.cpu.a s fun t => finish 8 (t.setHl (s.hl - 1))

/-- `LD A,(HL+)` (R215): on a fault neither A nor HL changes. -/
def ldAMHlInc (s : State) : Exec := loadThen s.hl s fun v => finish 8 ((s.setReg .a v).setHl (s.hl + 1))

/-- `LD A,(HL-)` (R216): on a fault neither A nor HL changes. -/
def ldAMHlDec (s : State) : Exec := loadThen s.hl s fun v => finish 8 ((s.setReg .a v).setHl (s.hl - 1))

/-- `LD (BC),A` (R206). -/
def execLdMBcA (s : State) : Exec := ldMPairA .bc s

/-- `LD B,n` (R201). -/
def execLdBImm8 (n : Byte) (s : State) : Exec := ldRegImm .b n s

/-- `LD A,(BC)` (R205). -/
def execLdAMBc (s : State) : Exec := ldAMPair .bc s

/-- `LD C,n` (R201). -/
def execLdCImm8 (n : Byte) (s : State) : Exec := ldRegImm .c n s

/-- `LD (DE),A` (R206). -/
def execLdMDeA (s : State) : Exec := ldMPairA .de s

/-- `LD D,n` (R201). -/
def execLdDImm8 (n : Byte) (s : State) : Exec := ldRegImm .d n s

/-- `LD A,(DE)` (R205). -/
def execLdAMDe (s : State) : Exec := ldAMPair .de s

/-- `LD E,n` (R201). -/
def execLdEImm8 (n : Byte) (s : State) : Exec := ldRegImm .e n s

/-- `LD (HL+),A` (R213). -/
def execLdMHlIncA (s : State) : Exec := ldMHlIncA s

/-- `LD H,n` (R201). -/
def execLdHImm8 (n : Byte) (s : State) : Exec := ldRegImm .h n s

/-- `LD A,(HL+)` (R215). -/
def execLdAMHlInc (s : State) : Exec := ldAMHlInc s

/-- `LD L,n` (R201). -/
def execLdLImm8 (n : Byte) (s : State) : Exec := ldRegImm .l n s

/-- `LD (HL-),A` (R214). -/
def execLdMHlDecA (s : State) : Exec := ldMHlDecA s

/-- `LD (HL),n` (R204). -/
def execLdMHlImm8 (n : Byte) (s : State) : Exec := ldMHlImm n s

/-- `LD A,(HL-)` (R216). -/
def execLdAMHlDec (s : State) : Exec := ldAMHlDec s

/-- `LD A,n` (R201). -/
def execLdAImm8 (n : Byte) (s : State) : Exec := ldRegImm .a n s

/-- `LD B,B` (R200). -/
def execLdBB (s : State) : Exec := ldRegReg .b .b s

/-- `LD B,C` (R200). -/
def execLdBC (s : State) : Exec := ldRegReg .b .c s

/-- `LD B,D` (R200). -/
def execLdBD (s : State) : Exec := ldRegReg .b .d s

/-- `LD B,E` (R200). -/
def execLdBE (s : State) : Exec := ldRegReg .b .e s

/-- `LD B,H` (R200). -/
def execLdBH (s : State) : Exec := ldRegReg .b .h s

/-- `LD B,L` (R200). -/
def execLdBL (s : State) : Exec := ldRegReg .b .l s

/-- `LD B,(HL)` (R202). -/
def execLdBMHl (s : State) : Exec := ldRegMHl .b s

/-- `LD B,A` (R200). -/
def execLdBA (s : State) : Exec := ldRegReg .b .a s

/-- `LD C,B` (R200). -/
def execLdCB (s : State) : Exec := ldRegReg .c .b s

/-- `LD C,C` (R200). -/
def execLdCC (s : State) : Exec := ldRegReg .c .c s

/-- `LD C,D` (R200). -/
def execLdCD (s : State) : Exec := ldRegReg .c .d s

/-- `LD C,E` (R200). -/
def execLdCE (s : State) : Exec := ldRegReg .c .e s

/-- `LD C,H` (R200). -/
def execLdCH (s : State) : Exec := ldRegReg .c .h s

/-- `LD C,L` (R200). -/
def execLdCL (s : State) : Exec := ldRegReg .c .l s

/-- `LD C,(HL)` (R202). -/
def execLdCMHl (s : State) : Exec := ldRegMHl .c s

/-- `LD C,A` (R200). -/
def execLdCA (s : State) : Exec := ldRegReg .c .a s

/-- `LD D,B` (R200). -/
def execLdDB (s : State) : Exec := ldRegReg .d .b s

/-- `LD D,C` (R200). -/
def execLdDC (s : State) : Exec := ldRegReg .d .c s

/-- `LD D,D` (R200). -/
def execLdDD (s : State) : Exec := ldRegReg .d .d s

/-- `LD D,E` (R200). -/
def execLdDE (s : State) : Exec := ldRegReg .d .e s

/-- `LD D,H` (R200). -/
def execLdDH (s : State) : Exec := ldRegReg .d .h s

/-- `LD D,L` (R200). -/
def execLdDL (s : State) : Exec := ldRegReg .d .l s

/-- `LD D,(HL)` (R202). -/
def execLdDMHl (s : State) : Exec := ldRegMHl .d s

/-- `LD D,A` (R200). -/
def execLdDA (s : State) : Exec := ldRegReg .d .a s

/-- `LD E,B` (R200). -/
def execLdEB (s : State) : Exec := ldRegReg .e .b s

/-- `LD E,C` (R200). -/
def execLdEC (s : State) : Exec := ldRegReg .e .c s

/-- `LD E,D` (R200). -/
def execLdED (s : State) : Exec := ldRegReg .e .d s

/-- `LD E,E` (R200). -/
def execLdEE (s : State) : Exec := ldRegReg .e .e s

/-- `LD E,H` (R200). -/
def execLdEH (s : State) : Exec := ldRegReg .e .h s

/-- `LD E,L` (R200). -/
def execLdEL (s : State) : Exec := ldRegReg .e .l s

/-- `LD E,(HL)` (R202). -/
def execLdEMHl (s : State) : Exec := ldRegMHl .e s

/-- `LD E,A` (R200). -/
def execLdEA (s : State) : Exec := ldRegReg .e .a s

/-- `LD H,B` (R200). -/
def execLdHB (s : State) : Exec := ldRegReg .h .b s

/-- `LD H,C` (R200). -/
def execLdHC (s : State) : Exec := ldRegReg .h .c s

/-- `LD H,D` (R200). -/
def execLdHD (s : State) : Exec := ldRegReg .h .d s

/-- `LD H,E` (R200). -/
def execLdHE (s : State) : Exec := ldRegReg .h .e s

/-- `LD H,H` (R200). -/
def execLdHH (s : State) : Exec := ldRegReg .h .h s

/-- `LD H,L` (R200). -/
def execLdHL (s : State) : Exec := ldRegReg .h .l s

/-- `LD H,(HL)` (R202). -/
def execLdHMHl (s : State) : Exec := ldRegMHl .h s

/-- `LD H,A` (R200). -/
def execLdHA (s : State) : Exec := ldRegReg .h .a s

/-- `LD L,B` (R200). -/
def execLdLB (s : State) : Exec := ldRegReg .l .b s

/-- `LD L,C` (R200). -/
def execLdLC (s : State) : Exec := ldRegReg .l .c s

/-- `LD L,D` (R200). -/
def execLdLD (s : State) : Exec := ldRegReg .l .d s

/-- `LD L,E` (R200). -/
def execLdLE (s : State) : Exec := ldRegReg .l .e s

/-- `LD L,H` (R200). -/
def execLdLH (s : State) : Exec := ldRegReg .l .h s

/-- `LD L,L` (R200). -/
def execLdLL (s : State) : Exec := ldRegReg .l .l s

/-- `LD L,(HL)` (R202). -/
def execLdLMHl (s : State) : Exec := ldRegMHl .l s

/-- `LD L,A` (R200). -/
def execLdLA (s : State) : Exec := ldRegReg .l .a s

/-- `LD (HL),B` (R203). -/
def execLdMHlB (s : State) : Exec := ldMHlReg .b s

/-- `LD (HL),C` (R203). -/
def execLdMHlC (s : State) : Exec := ldMHlReg .c s

/-- `LD (HL),D` (R203). -/
def execLdMHlD (s : State) : Exec := ldMHlReg .d s

/-- `LD (HL),E` (R203). -/
def execLdMHlE (s : State) : Exec := ldMHlReg .e s

/-- `LD (HL),H` (R203). -/
def execLdMHlH (s : State) : Exec := ldMHlReg .h s

/-- `LD (HL),L` (R203). -/
def execLdMHlL (s : State) : Exec := ldMHlReg .l s

/-- `LD (HL),A` (R203). -/
def execLdMHlA (s : State) : Exec := ldMHlReg .a s

/-- `LD A,B` (R200). -/
def execLdAB (s : State) : Exec := ldRegReg .a .b s

/-- `LD A,C` (R200). -/
def execLdAC (s : State) : Exec := ldRegReg .a .c s

/-- `LD A,D` (R200). -/
def execLdAD (s : State) : Exec := ldRegReg .a .d s

/-- `LD A,E` (R200). -/
def execLdAE (s : State) : Exec := ldRegReg .a .e s

/-- `LD A,H` (R200). -/
def execLdAH (s : State) : Exec := ldRegReg .a .h s

/-- `LD A,L` (R200). -/
def execLdAL (s : State) : Exec := ldRegReg .a .l s

/-- `LD A,(HL)` (R202). -/
def execLdAMHl (s : State) : Exec := ldRegMHl .a s

/-- `LD A,A` (R200). -/
def execLdAA (s : State) : Exec := ldRegReg .a .a s

/-- `LDH (n),A` (R210). -/
def execLdhMNA (n : Byte) (s : State) : Exec := ldhMNA n s

/-- `LD (C),A` (R212). -/
def execLdMCA (s : State) : Exec := ldMCA s

/-- `LD (nn),A` (R208). -/
def execLdMImm16A (nn : Word) (s : State) : Exec := ldMImm16A nn s

/-- `LDH A,(n)` (R209). -/
def execLdhAMN (n : Byte) (s : State) : Exec := ldhAMN n s

/-- `LD A,(C)` (R211). -/
def execLdAMC (s : State) : Exec := ldAMC s

/-- `LD A,(nn)` (R207). -/
def execLdAMImm16 (nn : Word) (s : State) : Exec := ldAMImm16 nn s

end Sys2Proof.Machine
end

