-- ==== Sys2Proof/Machine/Rotate.lean ====
section
/-! DEFINITION. The meanings of the rotates, shifts and swap (44_rotate_shift.md): one definition per form of the file, and one per row of the opcode table
over it. Each runs after PC has been advanced past the instruction (60_exceptions.md R452). -/

namespace Sys2Proof.Machine

/-- The accumulator rotates (R340 to R343): Z is always cleared. -/
def rotateA (op : RotOp) (s : State) : Exec :=
  let r := rotate op s.cpu.a s.cf
  finish 4 ((s.setReg .a r.1).setFlags false false false r.2)

/-- `RLCA` (R340). -/
def rlca (s : State) : Exec := rotateA .rlc s

/-- `RRCA` (R341). -/
def rrca (s : State) : Exec := rotateA .rrc s

/-- `RLA` (R342). -/
def rla (s : State) : Exec := rotateA .rl s

/-- `RRA` (R343). -/
def rra (s : State) : Exec := rotateA .rr s

/-- The CB rotates and shifts (R344 to R351): the operand is read, written back, then the flags are written. -/
def rot (op : RotOp) (t : Operand8) (s : State) : Exec :=
  readOperand t s fun v =>
    let r := rotate op v s.cf
    writeOperand t r.1 s fun u => finish (operandCycles t 8 16) (u.setFlags (decide (r.1 = 0)) false false r.2)

/-- `RLCA` (R340). -/
def execRlca (s : State) : Exec := rlca s

/-- `RRCA` (R341). -/
def execRrca (s : State) : Exec := rrca s

/-- `RLA` (R342). -/
def execRla (s : State) : Exec := rla s

/-- `RRA` (R343). -/
def execRra (s : State) : Exec := rra s

/-- `RLC B` (R344). -/
def execRlcB (s : State) : Exec := rot .rlc (.reg .b) s

/-- `RLC C` (R344). -/
def execRlcC (s : State) : Exec := rot .rlc (.reg .c) s

/-- `RLC D` (R344). -/
def execRlcD (s : State) : Exec := rot .rlc (.reg .d) s

/-- `RLC E` (R344). -/
def execRlcE (s : State) : Exec := rot .rlc (.reg .e) s

/-- `RLC H` (R344). -/
def execRlcH (s : State) : Exec := rot .rlc (.reg .h) s

/-- `RLC L` (R344). -/
def execRlcL (s : State) : Exec := rot .rlc (.reg .l) s

/-- `RLC (HL)` (R344). -/
def execRlcMHl (s : State) : Exec := rot .rlc .mhl s

/-- `RLC A` (R344). -/
def execRlcA (s : State) : Exec := rot .rlc (.reg .a) s

/-- `RRC B` (R345). -/
def execRrcB (s : State) : Exec := rot .rrc (.reg .b) s

/-- `RRC C` (R345). -/
def execRrcC (s : State) : Exec := rot .rrc (.reg .c) s

/-- `RRC D` (R345). -/
def execRrcD (s : State) : Exec := rot .rrc (.reg .d) s

/-- `RRC E` (R345). -/
def execRrcE (s : State) : Exec := rot .rrc (.reg .e) s

/-- `RRC H` (R345). -/
def execRrcH (s : State) : Exec := rot .rrc (.reg .h) s

/-- `RRC L` (R345). -/
def execRrcL (s : State) : Exec := rot .rrc (.reg .l) s

/-- `RRC (HL)` (R345). -/
def execRrcMHl (s : State) : Exec := rot .rrc .mhl s

/-- `RRC A` (R345). -/
def execRrcA (s : State) : Exec := rot .rrc (.reg .a) s

/-- `RL B` (R346). -/
def execRlB (s : State) : Exec := rot .rl (.reg .b) s

/-- `RL C` (R346). -/
def execRlC (s : State) : Exec := rot .rl (.reg .c) s

/-- `RL D` (R346). -/
def execRlD (s : State) : Exec := rot .rl (.reg .d) s

/-- `RL E` (R346). -/
def execRlE (s : State) : Exec := rot .rl (.reg .e) s

/-- `RL H` (R346). -/
def execRlH (s : State) : Exec := rot .rl (.reg .h) s

/-- `RL L` (R346). -/
def execRlL (s : State) : Exec := rot .rl (.reg .l) s

/-- `RL (HL)` (R346). -/
def execRlMHl (s : State) : Exec := rot .rl .mhl s

/-- `RL A` (R346). -/
def execRlA (s : State) : Exec := rot .rl (.reg .a) s

/-- `RR B` (R347). -/
def execRrB (s : State) : Exec := rot .rr (.reg .b) s

/-- `RR C` (R347). -/
def execRrC (s : State) : Exec := rot .rr (.reg .c) s

/-- `RR D` (R347). -/
def execRrD (s : State) : Exec := rot .rr (.reg .d) s

/-- `RR E` (R347). -/
def execRrE (s : State) : Exec := rot .rr (.reg .e) s

/-- `RR H` (R347). -/
def execRrH (s : State) : Exec := rot .rr (.reg .h) s

/-- `RR L` (R347). -/
def execRrL (s : State) : Exec := rot .rr (.reg .l) s

/-- `RR (HL)` (R347). -/
def execRrMHl (s : State) : Exec := rot .rr .mhl s

/-- `RR A` (R347). -/
def execRrA (s : State) : Exec := rot .rr (.reg .a) s

/-- `SLA B` (R348). -/
def execSlaB (s : State) : Exec := rot .sla (.reg .b) s

/-- `SLA C` (R348). -/
def execSlaC (s : State) : Exec := rot .sla (.reg .c) s

/-- `SLA D` (R348). -/
def execSlaD (s : State) : Exec := rot .sla (.reg .d) s

/-- `SLA E` (R348). -/
def execSlaE (s : State) : Exec := rot .sla (.reg .e) s

/-- `SLA H` (R348). -/
def execSlaH (s : State) : Exec := rot .sla (.reg .h) s

/-- `SLA L` (R348). -/
def execSlaL (s : State) : Exec := rot .sla (.reg .l) s

/-- `SLA (HL)` (R348). -/
def execSlaMHl (s : State) : Exec := rot .sla .mhl s

/-- `SLA A` (R348). -/
def execSlaA (s : State) : Exec := rot .sla (.reg .a) s

/-- `SRA B` (R349). -/
def execSraB (s : State) : Exec := rot .sra (.reg .b) s

/-- `SRA C` (R349). -/
def execSraC (s : State) : Exec := rot .sra (.reg .c) s

/-- `SRA D` (R349). -/
def execSraD (s : State) : Exec := rot .sra (.reg .d) s

/-- `SRA E` (R349). -/
def execSraE (s : State) : Exec := rot .sra (.reg .e) s

/-- `SRA H` (R349). -/
def execSraH (s : State) : Exec := rot .sra (.reg .h) s

/-- `SRA L` (R349). -/
def execSraL (s : State) : Exec := rot .sra (.reg .l) s

/-- `SRA (HL)` (R349). -/
def execSraMHl (s : State) : Exec := rot .sra .mhl s

/-- `SRA A` (R349). -/
def execSraA (s : State) : Exec := rot .sra (.reg .a) s

/-- `SWAP B` (R350). -/
def execSwapB (s : State) : Exec := rot .swap (.reg .b) s

/-- `SWAP C` (R350). -/
def execSwapC (s : State) : Exec := rot .swap (.reg .c) s

/-- `SWAP D` (R350). -/
def execSwapD (s : State) : Exec := rot .swap (.reg .d) s

/-- `SWAP E` (R350). -/
def execSwapE (s : State) : Exec := rot .swap (.reg .e) s

/-- `SWAP H` (R350). -/
def execSwapH (s : State) : Exec := rot .swap (.reg .h) s

/-- `SWAP L` (R350). -/
def execSwapL (s : State) : Exec := rot .swap (.reg .l) s

/-- `SWAP (HL)` (R350). -/
def execSwapMHl (s : State) : Exec := rot .swap .mhl s

/-- `SWAP A` (R350). -/
def execSwapA (s : State) : Exec := rot .swap (.reg .a) s

/-- `SRL B` (R351). -/
def execSrlB (s : State) : Exec := rot .srl (.reg .b) s

/-- `SRL C` (R351). -/
def execSrlC (s : State) : Exec := rot .srl (.reg .c) s

/-- `SRL D` (R351). -/
def execSrlD (s : State) : Exec := rot .srl (.reg .d) s

/-- `SRL E` (R351). -/
def execSrlE (s : State) : Exec := rot .srl (.reg .e) s

/-- `SRL H` (R351). -/
def execSrlH (s : State) : Exec := rot .srl (.reg .h) s

/-- `SRL L` (R351). -/
def execSrlL (s : State) : Exec := rot .srl (.reg .l) s

/-- `SRL (HL)` (R351). -/
def execSrlMHl (s : State) : Exec := rot .srl .mhl s

/-- `SRL A` (R351). -/
def execSrlA (s : State) : Exec := rot .srl (.reg .a) s

end Sys2Proof.Machine
end

