-- ==== Sys2Proof/Machine/System.lean ====
section
/-! DEFINITION. The meanings of the system instructions, the gaps and the prefix row (47_system.md): one definition per form of the file, and one per row of the opcode table
over it. Each runs after PC has been advanced past the instruction (60_exceptions.md R452). -/

namespace Sys2Proof.Machine

/-- `NOP` (R420). -/
def nop (s : State) : Exec := finish 4 s

/-- `HALT` (R421). -/
def halt (s : State) : Exec := finish 4 (s.setHalted true)

/-- `STOP` (R422): always the fault `Unsupported`, with the address of the 2-byte instruction's opcode. -/
def stop (_n : Byte) (s : State) : Exec := .fault (.unsupported (s.cpu.pc - 2) 0x10 s)

/-- `DI` (R423). -/
def di (s : State) : Exec := finish 4 (s.setIme false)

/-- `EI` (R424): IME is 1 from the end of this step. -/
def ei (s : State) : Exec := finish 4 (s.setIme true)

/-- A gap (R425): always the fault `IllegalOpcode`, with the address of the 1-byte instruction's opcode. -/
def illegal (g : Gap) (s : State) : Exec := .fault (.illegalOpcode (s.cpu.pc - 1) (gapOpcode g) s)

/-- The prefix row with its second byte (R426): the operation of the CB row that byte selects (30_encoding.md R158, R163).
The decoder gives the CB row itself, never this term. -/
def prefixCb (c : Byte) (s : State) : Exec :=
  let t := operandR8 (fieldZ c)
  let y := fieldY c
  match (fieldX c).toNat with
  | 0 => rot (operandRot y) t s
  | 1 => bit (operandBit y) t s
  | 2 => res (operandBit y) t s
  | _ => set (operandBit y) t s

/-- `NOP` (R420). -/
def execNop (s : State) : Exec := nop s

/-- `STOP` (R422). -/
def execStop (n : Byte) (s : State) : Exec := stop n s

/-- `HALT` (R421). -/
def execHalt (s : State) : Exec := halt s

/-- `PREFIX CB` (R426). -/
def execPrefixCb (c : Byte) (s : State) : Exec := prefixCb c s

/-- `ILLEGAL 0xD3` (R425). -/
def execIllegalD3 (s : State) : Exec := illegal .gd3 s

/-- `ILLEGAL 0xDB` (R425). -/
def execIllegalDB (s : State) : Exec := illegal .gdb s

/-- `ILLEGAL 0xDD` (R425). -/
def execIllegalDD (s : State) : Exec := illegal .gdd s

/-- `ILLEGAL 0xE3` (R425). -/
def execIllegalE3 (s : State) : Exec := illegal .ge3 s

/-- `ILLEGAL 0xE4` (R425). -/
def execIllegalE4 (s : State) : Exec := illegal .ge4 s

/-- `ILLEGAL 0xEB` (R425). -/
def execIllegalEB (s : State) : Exec := illegal .geb s

/-- `ILLEGAL 0xEC` (R425). -/
def execIllegalEC (s : State) : Exec := illegal .gec s

/-- `ILLEGAL 0xED` (R425). -/
def execIllegalED (s : State) : Exec := illegal .ged s

/-- `DI` (R423). -/
def execDi (s : State) : Exec := di s

/-- `ILLEGAL 0xF4` (R425). -/
def execIllegalF4 (s : State) : Exec := illegal .gf4 s

/-- `EI` (R424). -/
def execEi (s : State) : Exec := ei s

/-- `ILLEGAL 0xFC` (R425). -/
def execIllegalFC (s : State) : Exec := illegal .gfc s

/-- `ILLEGAL 0xFD` (R425). -/
def execIllegalFD (s : State) : Exec := illegal .gfd s

end Sys2Proof.Machine
end

