-- ==== Sys2Proof/Machine/Fetch.lean ====
section
/-! DEFINITION. The parts of one turn of the driving loop: fetch, the CPU step's three paths, the devices' ticks
(60_exceptions.md R450 to R457, R580), and the storing of an instruction where the CPU fetches. -/

namespace Sys2Proof.Machine

/-- Read `n` bytes through the bus from an address upward, modulo 2^16, low address first (30_encoding.md R150, R162). -/
def fetchBytes (n : Nat) (a : Word) (s : State) : Except Fault (List Byte) :=
  match n with
  | 0 => .ok []
  | k + 1 =>
    match busRead .cpu a s with
    | .error f => .error f
    | .ok v =>
      match fetchBytes k (a + 1) s with
      | .error f => .error f
      | .ok vs => .ok (v :: vs)

/-- Decode the instruction at PC (60_exceptions.md R452, 30_encoding.md R162): the opcode byte, then as many operand bytes as
its length names; a faulting read leaves every register as it was. -/
def fetch (s : State) : Except Fault Instr :=
  match busRead .cpu s.cpu.pc s with
  | .error f => .error f
  | .ok op =>
    match fetchBytes (opcodeLength op - 1) (s.cpu.pc + 1) s with
    | .error f => .error f
    | .ok operands => .ok (decodeInstr op (operands.getD 0 0) (operands.getD 1 0))

/-- The flag invariant after an instruction (10_state.md R33): F[3:0] ≠ 0 is the fault `FlagNibble`. -/
def checkFlags (s : State) : Exec :=
  if s.cpu.f &&& 0x0F = 0 then .next s else .fault (.flagNibble s.cpu.f s)

/-- Go on from a next state; a fault or a refusal stops. -/
def Exec.andThen (x : Exec) (k : State → Exec) : Exec :=
  match x with
  | .next s => k s
  | .fault f => .fault f
  | .refused r => .refused r

/-- Run an instruction that was fetched at PC (R452): PC past it, its meaning, the flag check. -/
def runInstr (i : Instr) (s : State) : Exec :=
  Exec.andThen (exec i (s.setPc (s.cpu.pc + BitVec.ofNat 16 i.length))) checkFlags

/-- Path 2 of the CPU step, a halted step (R454, R456). -/
def idleStep (s : State) : Exec :=
  if s.params.haltWakes && decide (s.irq.ie &&& s.irq.iflag &&& 0x1F ≠ 0) then finish 4 (s.setHalted false) else finish 4 s

/-- The source that path 1 dispatches: one is pending and IME is set (R451). -/
def takenIrq (s : State) : Option IrqSource := if s.cpu.ime then pendingSource s.irq else none

/-- The CPU step (R450): interrupt dispatch, else a halted step, else one instruction. -/
def cpuStep (s : State) : Exec :=
  match takenIrq s with
  | some src => dispatchIrq src s
  | none =>
    if s.cpu.halted then idleStep s
    else
      match fetch s with
      | .error f => .fault f
      | .ok i => runInstr i s

/-- The device ticks after a CPU step: one PPU and timer tick for each cycle it returned (R580). -/
def runTicks (s : State) : Exec :=
  match ticks s.cycles s with
  | .ok t => .next t
  | .error f => .fault f

/-- One turn of the driving loop (R580). -/
def loopTurn (s : State) : Exec := Exec.andThen (cpuStep s) runTicks

/-! ### Placing an instruction where the CPU fetches -/

/-- Whether a read of an address comes from storage that can be given a byte from outside: ROM, boot image or a RAM. -/
def State.storable (s : State) (a : Word) : Bool :=
  match s.target a with
  | .boot _ => true
  | .rom off => decide (off < s.cart.romLen)
  | .romBank off => decide (romOffset s.cart off < s.cart.romLen)
  | .vram _ => true
  | .cartRam _ => s.ramOpen
  | .wram _ => true
  | .oam _ => true
  | .joyp => false
  | .serialData => false
  | .serialControl => false
  | .div => false
  | .tima => false
  | .tma => false
  | .tac => false
  | .iflag => false
  | .sound _ => false
  | .ppu _ => false
  | .bootOff => false
  | .hram _ => true
  | .ie => false
  | .unmapped => false

/-- Put a byte into the storage that a read of an address comes from, with no effect of a bus write. -/
def State.place (s : State) (a : Word) (v : Byte) : State :=
  match s.target a with
  | .boot off => { s with params := { s.params with boot := Memory.write s.params.boot off v } }
  | .rom off => { s with cart := { s.cart with rom := Memory.write s.cart.rom off v } }
  | .romBank off => { s with cart := { s.cart with rom := Memory.write s.cart.rom (romOffset s.cart off) v } }
  | .vram off => { s with ppu := { s.ppu with vram := Memory.write s.ppu.vram off v } }
  | .cartRam off => { s with cart := { s.cart with ram := Memory.write s.cart.ram off v } }
  | .wram off => { s with wram := Memory.write s.wram off v }
  | .oam off => { s with ppu := { s.ppu with oam := Memory.write s.ppu.oam off v } }
  | .hram off => { s with hram := Memory.write s.hram off v }
  | .joyp => s
  | .serialData => s
  | .serialControl => s
  | .div => s
  | .tima => s
  | .tma => s
  | .tac => s
  | .iflag => s
  | .sound _ => s
  | .ppu _ => s
  | .bootOff => s
  | .ie => s
  | .unmapped => s

/-- The state made ready to fetch: not halted, no interrupt taken first, and PC where three bytes can be placed (its own value
where they can, else the start of work RAM). -/
def State.readyToFetch (s : State) : State :=
  let t := (s.setHalted false).setIme (s.cpu.ime && (pendingSource s.irq).isNone)
  if s.storable s.cpu.pc && s.storable (s.cpu.pc + 1) && s.storable (s.cpu.pc + 2) then t else t.setPc 0xC000

/-- The three bytes placed at PC and the two addresses after it. -/
def State.placeAtPc (s : State) (b0 b1 b2 : Byte) : State :=
  ((s.place s.cpu.pc b0).place (s.cpu.pc + 1) b1).place (s.cpu.pc + 2) b2

end Sys2Proof.Machine
end

