-- ==== Sys2Proof/Machine/Step.lean ====
section
/-! DEFINITION. One step of the machine: one turn of the driving loop, that is one CPU step and then the device ticks of the
cycles it returned (60_exceptions.md R450, R580). -/

namespace Sys2Proof.Machine

/-- One turn of the driving loop (R580). -/
def step (s : State) : Host.Outcome State Fault Refusal := loopTurn s

/-- The state with the instruction that `w` is (numbered as `decodeTableWord` numbers it) stored where `step` fetches its next
instruction; it stands for the host's loading of a program (log 10). -/
def State.withFetchWord (s : State) (nbits w : Nat) : State :=
  (s.readyToFetch).placeAtPc (tableBytes nbits w).1 (tableBytes nbits w).2.1 (tableBytes nbits w).2.2

end Sys2Proof.Machine
end

