-- ==== Sys2Proof/Machine/Session.lean ====
section
/-! DEFINITION. The host's two actions before the first step: constructing a session (70_reset_and_hazards.md R600 to R607) and
installing a save state (60_exceptions.md R583, R584). -/

namespace Sys2Proof.Machine

/-- The memory that holds a list of bytes from offset `k` on. -/
def Memory.ofBytesFrom (k : Nat) : List Byte → Memory 8
  | [] => []
  | v :: vs => if v = 0 then Memory.ofBytesFrom (k + 1) vs else (k, v) :: Memory.ofBytesFrom (k + 1) vs

/-- The memory that holds a list of bytes from offset 0 on. -/
def Memory.ofBytes (vs : List Byte) : Memory 8 := Memory.ofBytesFrom 0 vs

/-- `INIT_REGS` (00_scope.md R12). -/
structure InitRegs where
  a : Byte
  f : Byte
  b : Byte
  c : Byte
  d : Byte
  e : Byte
  h : Byte
  l : Byte
  sp : Word
  deriving DecidableEq, Repr

/-- `INIT_MEM` (R12, 70_reset_and_hazards.md R604). Battery RAM is cut to `RAM_SIZE`. -/
structure InitMem where
  wram : Vector Byte 0x2000
  hram : Vector Byte 127
  vram : Vector Byte 0x2000
  oam : Vector Byte 160
  ram : List Byte

/-- `DEVICE_INIT` (R12, 70_reset_and_hazards.md R603). -/
structure DeviceInit where
  joypSel : BitVec 2
  sb : Byte
  sc : Byte
  tima : Byte
  tma : Byte
  tac : Byte
  iflag : Byte
  ie : Byte
  sound : Vector Byte 48
  lcdc : Byte
  statSel : BitVec 4
  scy : Byte
  scx : Byte
  lyc : Byte
  dma : Byte
  bgp : Byte
  obp0 : Byte
  obp1 : Byte
  wy : Byte
  wx : Byte

/-- The boot-profile column of R603. -/
def DeviceInit.boot : DeviceInit :=
  { joypSel := 0, sb := 0, sc := 0, tima := 0, tma := 0, tac := 0, iflag := 0, ie := 0, sound := Vector.replicate 48 0,
    lcdc := 0, statSel := 0, scy := 0, scx := 0, lyc := 0, dma := 0, bgp := 0, obp0 := 0, obp1 := 0, wy := 0, wx := 0 }

/-- The post-boot-profile column of R603. -/
def DeviceInit.postBoot : DeviceInit :=
  { DeviceInit.boot with iflag := 0x01, lcdc := 0x91, dma := 0xFF, bgp := 0xFC, obp0 := 0xFF, obp1 := 0xFF }

/-- The default `INIT_REGS` of the post-boot profile (R602). -/
def InitRegs.postBoot : InitRegs :=
  { a := 0x01, f := 0xB0, b := 0x00, c := 0x13, d := 0x00, e := 0xD8, h := 0x01, l := 0x4D, sp := 0xFFFE }

/-- Memory contents of 0x00 (DESIGN CHOICE, unsafe, log 4: `INIT_MEM` is OPEN). -/
def InitMem.zero : InitMem :=
  { wram := Vector.replicate 0x2000 0, hram := Vector.replicate 127 0, vram := Vector.replicate 0x2000 0,
    oam := Vector.replicate 160 0, ram := [] }

/-- What the host gives at construction (60_exceptions.md R584). -/
structure SessionArgs where
  rom : List Byte
  boot : Option (Vector Byte 256)
  regs : InitRegs
  mem : InitMem
  dev : DeviceInit
  params : Params

/-- Why no session starts (70_reset_and_hazards.md R600). -/
inductive ConstructError where
  /-- `ROM` is shorter than 0x4000 bytes. -/
  | romTooShort
  /-- The cartridge type byte is none of 0x00 to 0x03 (20_memory.md R111). -/
  | cartridgeType (code : Byte)
  /-- The RAM size code is none of 0x00, 0x02 to 0x05 (20_memory.md R113). -/
  | ramSizeCode (code : Byte)
  deriving DecidableEq, Repr

/-- A CPU at power-on (R601): IME and halted 0, F masked. -/
def InitRegs.cpu (r : InitRegs) (pc : Word) : Cpu :=
  { a := r.a, f := r.f &&& 0xF0, b := r.b, c := r.c, d := r.d, e := r.e, h := r.h, l := r.l, sp := r.sp, pc := pc,
    ime := false, halted := false }

/-- A PPU at power-on (R603, R604, R606). -/
def DeviceInit.ppu (x : DeviceInit) (m : InitMem) : Ppu :=
  { vram := Memory.ofBytes m.vram.toList, oam := Memory.ofBytes m.oam.toList, lcdc := x.lcdc, statSel := x.statSel,
    scy := x.scy, scx := x.scx, ly := 0, lyc := x.lyc, dma := x.dma, bgp := x.bgp, obp0 := x.obp0, obp1 := x.obp1,
    wy := x.wy, wx := x.wx, coincidence := decide ((0 : Byte) = x.lyc), dot := 0, mode := .oamScan, lineObjects := [],
    dmaState := none, statLine := false, fb := [] }

/-- The state of a session whose checks have passed (R601 to R607). -/
def sessionState (x : SessionArgs) (ramSize : Nat) : State :=
  { cpu := x.regs.cpu (if x.boot.isSome then 0x0000 else 0x0100)
    overlay := x.boot.isSome
    wram := Memory.ofBytes x.mem.wram.toList
    hram := Memory.ofBytes x.mem.hram.toList
    cart := { rom := Memory.ofBytes x.rom, romLen := x.rom.length, bank := 1, ramEnabled := false,
              ram := Memory.ofBytes (x.mem.ram.take ramSize) }
    irq := { ie := x.dev.ie, iflag := x.dev.iflag }
    timer := { cnt := 0, tima := x.dev.tima, tma := x.dev.tma, tac := x.dev.tac }
    ppu := x.dev.ppu x.mem
    ports := { joypSel := x.dev.joypSel, sb := x.dev.sb, sc := x.dev.sc, sound := Memory.ofBytes x.dev.sound.toList }
    params := { x.params with boot := ((x.boot.map fun v => Memory.ofBytes v.toList).getD []) }
    cycles := 0 }

/-- Construction (R600): the state at power-on, or the refusal of an unsupported image. -/
def construct (x : SessionArgs) : Except ConstructError State :=
  if x.rom.length < 0x4000 then .error .romTooShort
  else
    let type := x.rom.getD 0x147 0
    let code := x.rom.getD 0x149 0
    if 3 < type.toNat then .error (.cartridgeType type)
    else
      match ramSizeOf code with
      | none => .error (.ramSizeCode code)
      | some size => .ok (sessionState x size)

/-- The arguments whose session starts as `State.reset`: a 32 KiB ROM of 0x00 bytes, no boot image, every default. -/
def SessionArgs.default : SessionArgs :=
  { rom := List.replicate 0x8000 0, boot := none, regs := InitRegs.postBoot, mem := InitMem.zero,
    dev := DeviceInit.postBoot, params := Params.default }

/-- A save state (60_exceptions.md R583): video RAM, the PPU register window 0xFF40–0xFF4B, OAM and the CPU registers. -/
structure SaveState where
  vram : Vector Byte 0x2000
  window : Vector Byte 12
  oam : Vector Byte 160
  regs : InitRegs
  pc : Word

/-- The PPU after an install (R583): the window's bytes stored directly, no side effect run; dot, mode and, as a
DESIGN CHOICE (unsafe, log 9), the coincidence bit keep their values. -/
def installPpu (x : SaveState) (p : Ppu) : Ppu :=
  { p with
    vram := Memory.ofBytes x.vram.toList
    oam := Memory.ofBytes x.oam.toList
    lcdc := x.window[0]
    statSel := x.window[1].extractLsb' 3 4
    scy := x.window[2]
    scx := x.window[3]
    ly := x.window[4]
    lyc := x.window[5]
    dma := x.window[6]
    bgp := x.window[7]
    obp0 := x.window[8]
    obp1 := x.window[9]
    wy := x.window[10]
    wx := x.window[11] }

/-- The save-state install (R583): refused when the LY byte is above 153. DESIGN CHOICE (unsafe, log 9): the CPU registers are
A to L, F masked, SP and PC; IME and halted keep their values. -/
def install (x : SaveState) (s : State) : Option State :=
  if 153 < x.window[4].toNat then none
  else
    some { s with
      cpu := { x.regs.cpu x.pc with ime := s.cpu.ime, halted := s.cpu.halted }
      ppu := installPpu x s.ppu }

end Sys2Proof.Machine
end

