-- ==== Sys2Proof/Safety.lean ====
section
/-! DEFINITION. What counts as a safe run, and the terms the statements use: the machine's invariants, what a form may change, and
the addresses it stores to. -/

namespace Sys2Proof

/-! ### The field values of the encoding tables -/

/-- The index of a register in the table r8 (30_encoding.md R153). -/
def Reg8.code : Reg8 → Byte
  | .b => 0
  | .c => 1
  | .d => 2
  | .e => 3
  | .h => 4
  | .l => 5
  | .a => 7

/-- The index of an operand in the table r8 (R153). -/
def Operand8.code : Operand8 → Byte
  | .reg r => r.code
  | .mhl => 6

/-- The index of a pair in the table rp (R154). -/
def Pair.code : Pair → Byte
  | .bc => 0
  | .de => 1
  | .hl => 2
  | .sp => 3

/-- The index of a pair in the table rp2 (R155). -/
def StackPair.code : StackPair → Byte
  | .bc => 0
  | .de => 1
  | .hl => 2
  | .af => 3

/-- The index of a condition in the table cc (R156). -/
def Cond.code : Cond → Byte
  | .nz => 0
  | .z => 1
  | .nc => 2
  | .c => 3

/-- The index of an operation in the table alu (R157). -/
def AluOp.code : AluOp → Byte
  | .add => 0
  | .adc => 1
  | .sub => 2
  | .sbc => 3
  | .and => 4
  | .xor => 5
  | .or => 6
  | .cp => 7

/-- The index of an operation in the table rot (R158). -/
def RotOp.code : RotOp → Byte
  | .rlc => 0
  | .rrc => 1
  | .rl => 2
  | .rr => 3
  | .sla => 4
  | .sra => 5
  | .swap => 6
  | .srl => 7

/-- A bit number or restart index as the field y (R158, 46_control.md R400). -/
def Bit3.code : Bit3 → Byte
  | .b0 => 0
  | .b1 => 1
  | .b2 => 2
  | .b3 => 3
  | .b4 => 4
  | .b5 => 5
  | .b6 => 6
  | .b7 => 7

/-! ### What a form may change -/

/-- Whether a pair of the table `rp` holds a general register (10_state.md R35). -/
def Pair.has : Pair → Reg8 → Bool
  | .bc, r => r = .b || r = .c
  | .de, r => r = .d || r = .e
  | .hl, r => r = .h || r = .l
  | .sp, _ => false

/-- Whether a pair of the table `rp2` holds a general register (10_state.md R35). -/
def StackPair.has : StackPair → Reg8 → Bool
  | .bc, r => r = .b || r = .c
  | .de, r => r = .d || r = .e
  | .hl, r => r = .h || r = .l
  | .af, r => r = .a

/-- The address a CB form with write-back stores to: HL for (HL), none for a register. -/
def Operand8.storeAddrs (t : Operand8) (s : Machine.State) : List Word :=
  match t with
  | .reg _ => []
  | .mhl => [s.hl]

/-- The byte an operand r8 holds (30_encoding.md R153), if it can be read. -/
def Operand8.value (t : Operand8) (s : Machine.State) : Option Byte :=
  match t with
  | .reg r => some (s.reg r)
  | .mhl => s.peek s.hl

/-- The state with an operand r8 written (30_encoding.md R153), or the fault of the write. -/
def Operand8.written (t : Operand8) (v : Byte) (s : Machine.State) : Except Machine.Fault Machine.State :=
  match t with
  | .reg r => .ok (s.setReg r v)
  | .mhl => Machine.busWrite s.hl v s

/-- The byte an ALU source holds (42_alu8.md R270), if it can be read. -/
def AluSrc.value (x : AluSrc) (s : Machine.State) : Option Byte :=
  match x with
  | .reg r => some (s.reg r)
  | .mhl => s.peek s.hl
  | .imm n => some n

/-- `Form.writesReg` of the forms of the CB page. -/
def Form.cbWritesReg (f : Form) (r : Reg8) : Bool :=
  match f with
  | .rot _ t => t = .reg r
  | .res _ t => t = .reg r
  | .set _ t => t = .reg r
  | _ => false

/-- `Form.flagMask` of the forms of the CB page. -/
def Form.cbFlagMask : Form → Byte
  | .rot _ _ => 0xF0
  | .bit _ _ => 0xE0
  | _ => 0

/-- `Form.storeAddrs` of the forms of the CB page. -/
def Form.cbStoreAddrs (f : Form) (s : Machine.State) : List Word :=
  match f with
  | .rot _ t => t.storeAddrs s
  | .res _ t => t.storeAddrs s
  | .set _ t => t.storeAddrs s
  | _ => []

/-- Whether a form names a general register as a destination, or as a register its addressing mode also updates (HL of
`(HL+)` and `(HL-)`), by the rule of each form. -/
def Form.writesReg (f : Form) (r : Reg8) : Bool :=
  match f with
  | .ldRegReg dst _ => r = dst
  | .ldRegImm dst _ => r = dst
  | .ldRegMHl dst => r = dst
  | .ldMHlReg _ => false
  | .ldMHlImm _ => false
  | .ldAMPair _ => r = .a
  | .ldMPairA _ => false
  | .ldAMImm16 _ => r = .a
  | .ldMImm16A _ => false
  | .ldhAMN _ => r = .a
  | .ldhMNA _ => false
  | .ldAMC => r = .a
  | .ldMCA => false
  | .ldMHlIncA => r = .h || r = .l
  | .ldMHlDecA => r = .h || r = .l
  | .ldAMHlInc => r = .a || r = .h || r = .l
  | .ldAMHlDec => r = .a || r = .h || r = .l
  | .ldPairImm p _ => p.has r
  | .ldMImm16Sp _ => false
  | .ldSpHl => false
  | .push _ => false
  | .pop p => p.has r
  | .ldHlSpRel _ => r = .h || r = .l
  | .alu op _ => Machine.aluWritesA op && r = .a
  | .incReg q => r = q
  | .incMHl => false
  | .decReg q => r = q
  | .decMHl => false
  | .daa => r = .a
  | .cpl => r = .a
  | .scf => false
  | .ccf => false
  | .addHlPair _ => r = .h || r = .l
  | .incPair p => p.has r
  | .decPair p => p.has r
  | .addSpRel _ => false
  | .rlca => r = .a
  | .rrca => r = .a
  | .rla => r = .a
  | .rra => r = .a
  | .rot _ t => t = .reg r
  | .bit _ _ => false
  | .res _ t => t = .reg r
  | .set _ t => t = .reg r
  | .jp _ => false
  | .jpCond _ _ => false
  | .jpHl => false
  | .jr _ => false
  | .jrCond _ _ => false
  | .call _ => false
  | .callCond _ _ => false
  | .ret => false
  | .retCond _ => false
  | .reti => false
  | .rst _ => false
  | .nop => false
  | .halt => false
  | .stop _ => false
  | .di => false
  | .ei => false
  | .illegal _ => false
  | .prefixCb c => (decodeCb c).cbWritesReg r

/-- The bits of F a form may change: the flags its rule names as written, and, for `POP AF`, all of F. -/
def Form.flagMask : Form → Byte
  | .ldRegReg _ _ => 0
  | .ldRegImm _ _ => 0
  | .ldRegMHl _ => 0
  | .ldMHlReg _ => 0
  | .ldMHlImm _ => 0
  | .ldAMPair _ => 0
  | .ldMPairA _ => 0
  | .ldAMImm16 _ => 0
  | .ldMImm16A _ => 0
  | .ldhAMN _ => 0
  | .ldhMNA _ => 0
  | .ldAMC => 0
  | .ldMCA => 0
  | .ldMHlIncA => 0
  | .ldMHlDecA => 0
  | .ldAMHlInc => 0
  | .ldAMHlDec => 0
  | .ldPairImm _ _ => 0
  | .ldMImm16Sp _ => 0
  | .ldSpHl => 0
  | .push _ => 0
  | .pop p => if p = .af then 0xFF else 0
  | .ldHlSpRel _ => 0xF0
  | .alu _ _ => 0xF0
  | .incReg _ => 0xE0
  | .incMHl => 0xE0
  | .decReg _ => 0xE0
  | .decMHl => 0xE0
  | .daa => 0xB0
  | .cpl => 0x60
  | .scf => 0x70
  | .ccf => 0x70
  | .addHlPair _ => 0x70
  | .incPair _ => 0
  | .decPair _ => 0
  | .addSpRel _ => 0xF0
  | .rlca => 0xF0
  | .rrca => 0xF0
  | .rla => 0xF0
  | .rra => 0xF0
  | .rot _ _ => 0xF0
  | .bit _ _ => 0xE0
  | .res _ _ => 0
  | .set _ _ => 0
  | .jp _ => 0
  | .jpCond _ _ => 0
  | .jpHl => 0
  | .jr _ => 0
  | .jrCond _ _ => 0
  | .call _ => 0
  | .callCond _ _ => 0
  | .ret => 0
  | .retCond _ => 0
  | .reti => 0
  | .rst _ => 0
  | .nop => 0
  | .halt => 0
  | .stop _ => 0
  | .di => 0
  | .ei => 0
  | .illegal _ => 0
  | .prefixCb c => (decodeCb c).cbFlagMask

/-- Whether a form may write SP. -/
def Form.writesSp : Form → Bool
  | .ldRegReg _ _ => false
  | .ldRegImm _ _ => false
  | .ldRegMHl _ => false
  | .ldMHlReg _ => false
  | .ldMHlImm _ => false
  | .ldAMPair _ => false
  | .ldMPairA _ => false
  | .ldAMImm16 _ => false
  | .ldMImm16A _ => false
  | .ldhAMN _ => false
  | .ldhMNA _ => false
  | .ldAMC => false
  | .ldMCA => false
  | .ldMHlIncA => false
  | .ldMHlDecA => false
  | .ldAMHlInc => false
  | .ldAMHlDec => false
  | .ldPairImm p _ => p = .sp
  | .ldMImm16Sp _ => false
  | .ldSpHl => true
  | .push _ => true
  | .pop _ => true
  | .ldHlSpRel _ => false
  | .alu _ _ => false
  | .incReg _ => false
  | .incMHl => false
  | .decReg _ => false
  | .decMHl => false
  | .daa => false
  | .cpl => false
  | .scf => false
  | .ccf => false
  | .addHlPair _ => false
  | .incPair p => p = .sp
  | .decPair p => p = .sp
  | .addSpRel _ => true
  | .rlca => false
  | .rrca => false
  | .rla => false
  | .rra => false
  | .rot _ _ => false
  | .bit _ _ => false
  | .res _ _ => false
  | .set _ _ => false
  | .jp _ => false
  | .jpCond _ _ => false
  | .jpHl => false
  | .jr _ => false
  | .jrCond _ _ => false
  | .call _ => true
  | .callCond _ _ => true
  | .ret => true
  | .retCond _ => true
  | .reti => true
  | .rst _ => true
  | .nop => false
  | .halt => false
  | .stop _ => false
  | .di => false
  | .ei => false
  | .illegal _ => false
  | .prefixCb _ => false

/-- Whether a form may set PC itself: the jumps, calls, returns and RST (46_control.md R390 to R400); every other form leaves it
at the address past the instruction (10_state.md R39). -/
def Form.writesPc : Form → Bool
  | .ldRegReg _ _ => false
  | .ldRegImm _ _ => false
  | .ldRegMHl _ => false
  | .ldMHlReg _ => false
  | .ldMHlImm _ => false
  | .ldAMPair _ => false
  | .ldMPairA _ => false
  | .ldAMImm16 _ => false
  | .ldMImm16A _ => false
  | .ldhAMN _ => false
  | .ldhMNA _ => false
  | .ldAMC => false
  | .ldMCA => false
  | .ldMHlIncA => false
  | .ldMHlDecA => false
  | .ldAMHlInc => false
  | .ldAMHlDec => false
  | .ldPairImm _ _ => false
  | .ldMImm16Sp _ => false
  | .ldSpHl => false
  | .push _ => false
  | .pop _ => false
  | .ldHlSpRel _ => false
  | .alu _ _ => false
  | .incReg _ => false
  | .incMHl => false
  | .decReg _ => false
  | .decMHl => false
  | .daa => false
  | .cpl => false
  | .scf => false
  | .ccf => false
  | .addHlPair _ => false
  | .incPair _ => false
  | .decPair _ => false
  | .addSpRel _ => false
  | .rlca => false
  | .rrca => false
  | .rla => false
  | .rra => false
  | .rot _ _ => false
  | .bit _ _ => false
  | .res _ _ => false
  | .set _ _ => false
  | .jp _ => true
  | .jpCond _ _ => true
  | .jpHl => true
  | .jr _ => true
  | .jrCond _ _ => true
  | .call _ => true
  | .callCond _ _ => true
  | .ret => true
  | .retCond _ => true
  | .reti => true
  | .rst _ => true
  | .nop => false
  | .halt => false
  | .stop _ => false
  | .di => false
  | .ei => false
  | .illegal _ => false
  | .prefixCb _ => false

/-- Whether a form may write IME (10_state.md R40). -/
def Form.writesIme : Form → Bool
  | .ldRegReg _ _ => false
  | .ldRegImm _ _ => false
  | .ldRegMHl _ => false
  | .ldMHlReg _ => false
  | .ldMHlImm _ => false
  | .ldAMPair _ => false
  | .ldMPairA _ => false
  | .ldAMImm16 _ => false
  | .ldMImm16A _ => false
  | .ldhAMN _ => false
  | .ldhMNA _ => false
  | .ldAMC => false
  | .ldMCA => false
  | .ldMHlIncA => false
  | .ldMHlDecA => false
  | .ldAMHlInc => false
  | .ldAMHlDec => false
  | .ldPairImm _ _ => false
  | .ldMImm16Sp _ => false
  | .ldSpHl => false
  | .push _ => false
  | .pop _ => false
  | .ldHlSpRel _ => false
  | .alu _ _ => false
  | .incReg _ => false
  | .incMHl => false
  | .decReg _ => false
  | .decMHl => false
  | .daa => false
  | .cpl => false
  | .scf => false
  | .ccf => false
  | .addHlPair _ => false
  | .incPair _ => false
  | .decPair _ => false
  | .addSpRel _ => false
  | .rlca => false
  | .rrca => false
  | .rla => false
  | .rra => false
  | .rot _ _ => false
  | .bit _ _ => false
  | .res _ _ => false
  | .set _ _ => false
  | .jp _ => false
  | .jpCond _ _ => false
  | .jpHl => false
  | .jr _ => false
  | .jrCond _ _ => false
  | .call _ => false
  | .callCond _ _ => false
  | .ret => false
  | .retCond _ => false
  | .reti => true
  | .rst _ => false
  | .nop => false
  | .halt => false
  | .stop _ => false
  | .di => true
  | .ei => true
  | .illegal _ => false
  | .prefixCb _ => false

/-- Whether a form may write `halted` (10_state.md R41). -/
def Form.writesHalted : Form → Bool
  | .ldRegReg _ _ => false
  | .ldRegImm _ _ => false
  | .ldRegMHl _ => false
  | .ldMHlReg _ => false
  | .ldMHlImm _ => false
  | .ldAMPair _ => false
  | .ldMPairA _ => false
  | .ldAMImm16 _ => false
  | .ldMImm16A _ => false
  | .ldhAMN _ => false
  | .ldhMNA _ => false
  | .ldAMC => false
  | .ldMCA => false
  | .ldMHlIncA => false
  | .ldMHlDecA => false
  | .ldAMHlInc => false
  | .ldAMHlDec => false
  | .ldPairImm _ _ => false
  | .ldMImm16Sp _ => false
  | .ldSpHl => false
  | .push _ => false
  | .pop _ => false
  | .ldHlSpRel _ => false
  | .alu _ _ => false
  | .incReg _ => false
  | .incMHl => false
  | .decReg _ => false
  | .decMHl => false
  | .daa => false
  | .cpl => false
  | .scf => false
  | .ccf => false
  | .addHlPair _ => false
  | .incPair _ => false
  | .decPair _ => false
  | .addSpRel _ => false
  | .rlca => false
  | .rrca => false
  | .rla => false
  | .rra => false
  | .rot _ _ => false
  | .bit _ _ => false
  | .res _ _ => false
  | .set _ _ => false
  | .jp _ => false
  | .jpCond _ _ => false
  | .jpHl => false
  | .jr _ => false
  | .jrCond _ _ => false
  | .call _ => false
  | .callCond _ _ => false
  | .ret => false
  | .retCond _ => false
  | .reti => false
  | .rst _ => false
  | .nop => false
  | .halt => true
  | .stop _ => false
  | .di => false
  | .ei => false
  | .illegal _ => false
  | .prefixCb _ => false

/-- The addresses a form stores a byte to, in a state with PC past the instruction: computed with the functions its meaning
computes them with. -/
def Form.storeAddrs (f : Form) (s : Machine.State) : List Word :=
  match f with
  | .ldRegReg _ _ => []
  | .ldRegImm _ _ => []
  | .ldRegMHl _ => []
  | .ldMHlReg _ => [s.hl]
  | .ldMHlImm _ => [s.hl]
  | .ldAMPair _ => []
  | .ldMPairA p => [s.addrPair p]
  | .ldAMImm16 _ => []
  | .ldMImm16A nn => [nn]
  | .ldhAMN _ => []
  | .ldhMNA n => [Machine.highPage n]
  | .ldAMC => []
  | .ldMCA => [Machine.highPage s.cpu.c]
  | .ldMHlIncA => [s.hl]
  | .ldMHlDecA => [s.hl]
  | .ldAMHlInc => []
  | .ldAMHlDec => []
  | .ldPairImm _ _ => []
  | .ldMImm16Sp nn => [nn, nn + 1]
  | .ldSpHl => []
  | .push _ => [s.cpu.sp - 1, s.cpu.sp - 2]
  | .pop _ => []
  | .ldHlSpRel _ => []
  | .alu _ _ => []
  | .incReg _ => []
  | .incMHl => [s.hl]
  | .decReg _ => []
  | .decMHl => [s.hl]
  | .daa => []
  | .cpl => []
  | .scf => []
  | .ccf => []
  | .addHlPair _ => []
  | .incPair _ => []
  | .decPair _ => []
  | .addSpRel _ => []
  | .rlca => []
  | .rrca => []
  | .rla => []
  | .rra => []
  | .rot _ t => t.storeAddrs s
  | .bit _ _ => []
  | .res _ t => t.storeAddrs s
  | .set _ t => t.storeAddrs s
  | .jp _ => []
  | .jpCond _ _ => []
  | .jpHl => []
  | .jr _ => []
  | .jrCond _ _ => []
  | .call _ => [s.cpu.sp - 1, s.cpu.sp - 2]
  | .callCond cc _ => if s.cond cc then [s.cpu.sp - 1, s.cpu.sp - 2] else []
  | .ret => []
  | .retCond _ => []
  | .reti => []
  | .rst _ => [s.cpu.sp - 1, s.cpu.sp - 2]
  | .nop => []
  | .halt => []
  | .stop _ => []
  | .di => []
  | .ei => []
  | .illegal _ => []
  | .prefixCb c => (decodeCb c).cbStoreAddrs s

namespace Machine

/-- A step that does not stop: the run goes on. -/
def State.Safe (s : State) : Prop := ∃ t, step s = .next t

/-- A run of `k` steps reaches a state. -/
def Reaches (s : State) : Nat → State → Prop
  | 0, t => t = s
  | k + 1, t => ∃ u, Reaches s k u ∧ step u = .next t

/-- Two states differ at most in CPU registers and the model's cycle count: no memory, device or cartridge state differs. -/
def SameOutsideCpu (s t : State) : Prop := t = { s with cpu := t.cpu, cycles := t.cycles }

/-- What `Push16(v)` leaves (00_scope.md R17): the high byte written at SP − 1 with SP there, then the low byte at SP − 2 with SP
there. -/
def State.pushed (s : State) (v : Word) : Except Fault State :=
  match busWrite (s.cpu.sp - 1) (hiByte v) (s.setSp (s.cpu.sp - 1)) with
  | .ok t => busWrite (s.cpu.sp - 2) (loByte v) (t.setSp (s.cpu.sp - 2))
  | .error f => .error f

/-- What `Pop16()` gives (00_scope.md R17), where both bytes can be read: the low byte from SP, the high byte from SP + 1. -/
def State.popped (s : State) : Option Word :=
  match s.peek s.cpu.sp, s.peek (s.cpu.sp + 1) with
  | some lo, some hi => some (wordOf hi lo)
  | _, _ => none

/-- The addresses whose reading a write to `a` may change: `a` itself; the battery RAM window for a write of the RAM gate
(20_memory.md R117); the banked window for a bank select (R118); the overlay's addresses for a write of 0xFF50 (R89). -/
def touches (a b : Word) : Bool :=
  decide (b = a) ||
  (decide (a.toNat < 0x2000) && decide (0xA000 ≤ b.toNat) && decide (b.toNat < 0xC000)) ||
  (decide (0x2000 ≤ a.toNat) && decide (a.toNat < 0x4000) && decide (0x4000 ≤ b.toNat) && decide (b.toNat < 0x8000)) ||
  (decide (a = 0xFF50) && decide (b.toNat < 0x100))

/-- The addresses no table row maps to a target (20_memory.md R82's list). -/
def unmappedAddr (oamWindow : Bool) (a : Word) : Prop :=
  (0xE000 ≤ a.toNat ∧ a.toNat ≤ 0xFDFF) ∨ (0xFE00 ≤ a.toNat ∧ a.toNat ≤ 0xFE9F ∧ oamWindow = false) ∨
  (0xFEA0 ≤ a.toNat ∧ a.toNat ≤ 0xFEFF) ∨ a.toNat = 0xFF03 ∨ (0xFF08 ≤ a.toNat ∧ a.toNat ≤ 0xFF0E) ∨
  (0xFF4C ≤ a.toNat ∧ a.toNat ≤ 0xFF4F) ∨ (0xFF51 ≤ a.toNat ∧ a.toNat ≤ 0xFF7F)

/-- The addresses of video RAM, work RAM and high RAM, whose bytes read back as written in every state (R90 to R92). -/
def plainRam (a : Word) : Prop :=
  (0x8000 ≤ a.toNat ∧ a.toNat ≤ 0x9FFF) ∨ (0xC000 ≤ a.toNat ∧ a.toNat ≤ 0xDFFF) ∨ (0xFF80 ≤ a.toNat ∧ a.toNat ≤ 0xFFFE)

/-! ### What an instruction's rule says it does -/

/-- A form reads one byte and writes it to a register, in so many cycles; a fault of the read is its fault. -/
def LoadsByte (f : Form) (a : Word) (dst : Reg8) (cycles : Nat) (s : State) : Prop :=
  (∀ v, s.peek a = some v → exec f.instr s = .next { s.setReg dst v with cycles := cycles }) ∧
  (∀ e, busRead .cpu a s = .error e → exec f.instr s = .fault e)

/-- A form writes one byte to memory and changes nothing else, in so many cycles; a fault of the write is its fault. -/
def StoresByte (f : Form) (a : Word) (v : Byte) (cycles : Nat) (s : State) : Prop :=
  (∀ t, busWrite a v s = .ok t → exec f.instr s = .next { t with cycles := cycles }) ∧
  (∀ e, busWrite a v s = .error e → exec f.instr s = .fault e)

/-- A form pushes a word (00_scope.md R17), then sets PC if it is a call, in so many cycles; a fault of a push write is its
fault. -/
def PushesWord (f : Form) (v : Word) (pc : Word) (cycles : Nat) (s : State) : Prop :=
  (∀ t, s.pushed v = .ok t → exec f.instr s = .next { t.setPc pc with cycles := cycles }) ∧
  (∀ e, s.pushed v = .error e → exec f.instr s = .fault e)

/-- The pop reads of a form fault: at SP, or, with SP one higher, at SP + 1 (00_scope.md R17). -/
def PopFaults (f : Form) (s : State) : Prop :=
  (∀ e, busRead .cpu s.cpu.sp s = .error e → exec f.instr s = .fault e) ∧
  (∀ v e, busRead .cpu s.cpu.sp s = .ok v → busRead .cpu (s.cpu.sp + 1) (s.setSp (s.cpu.sp + 1)) = .error e →
    exec f.instr s = .fault e)

/-- `u` is `t` with the four flags as given and the cycle count set: F[3:0] and everything outside F are as in `t`. -/
def SetsFlags (t u : State) (z n h c : Bool) (cycles : Nat) : Prop :=
  u.zf = z ∧ u.nf = n ∧ u.hf = h ∧ u.cf = c ∧ u.cpu.f &&& 0x0F = t.cpu.f &&& 0x0F ∧
  u = { t with cpu := { t.cpu with f := u.cpu.f }, cycles := cycles }

/-- The encodings of an ALU operation's three forms (42_alu8.md R270). -/
def AluEncodes (op : AluOp) : Prop :=
  (∀ r, encode (Form.alu op (.reg r)).instr = [0x80 + 8 * op.code + r.code]) ∧
  encode (Form.alu op .mhl).instr = [0x86 + 8 * op.code] ∧
  (∀ n, encode (Form.alu op (.imm n)).instr = [0xC6 + 8 * op.code, n])

/-- The cycles of an ALU operation by its source (R270): 4 for a register, 8 for (HL) and n. -/
def sourceCycles : AluSrc → Nat
  | .reg _ => 4
  | .mhl => 8
  | .imm _ => 8

/-- The (HL) form of an ALU operation faults where its read does. -/
def AluFaults (op : AluOp) (s : State) : Prop :=
  ∀ e, busRead .cpu s.hl s = .error e → exec (Form.alu op .mhl).instr s = .fault e

/-- Result and carry of the CB rotates and shifts, as their pseudocode writes them (44_rotate_shift.md R344 to R351). -/
def rotSpec (op : RotOp) (v : Byte) (cf : Bool) : Byte × Bool :=
  match op with
  | .rlc => ((v <<< 1) ||| (if v.getLsbD 7 then 1 else 0), v.getLsbD 7)
  | .rrc => ((v >>> 1) ||| (if v.getLsbD 0 then 0x80 else 0), v.getLsbD 0)
  | .rl => ((v <<< 1) ||| (if cf then 1 else 0), v.getLsbD 7)
  | .rr => ((v >>> 1) ||| (if cf then 0x80 else 0), v.getLsbD 0)
  | .sla => (v <<< 1, v.getLsbD 7)
  | .sra => ((v >>> 1) ||| (v &&& 0x80), v.getLsbD 0)
  | .swap => (((v &&& 0x0F) <<< 4) ||| (v >>> 4), false)
  | .srl => (v >>> 1, v.getLsbD 0)

/-- The byte that stands for a number 0 to 99 in binary-coded decimal. -/
def bcd (n : Nat) : Byte := BitVec.ofNat 8 (16 * (n / 10) + n % 10)

/-- The number of cycles between TIMA increments for TAC's select bits (60_exceptions.md R486, R488). -/
def timerPeriod (tac : Byte) : Nat :=
  match tac.toNat % 4 with
  | 0 => 1024
  | 1 => 16
  | 2 => 64
  | _ => 256

/-! ### Invariants -/

/-- The data invariant: the flag nibble (10_state.md R33), the bank (20_memory.md R118), LY and the dot counter
(60_exceptions.md R500), the DMA sub-state (R560), the line objects (R555), and every memory canonical and within its size
(00_scope.md R11). -/
structure State.Inv (s : State) : Prop where
  flags : s.cpu.f &&& 0x0F = 0
  bank : s.cart.bank ≠ 0
  line : s.ppu.ly.toNat ≤ 153
  dot : s.ppu.dot < 456
  dma : ∀ t, s.ppu.dmaState = some t → t.offset < 160 ∧ t.source.toNat ≤ 0xDF00 ∧ t.source.toNat % 256 = 0
  objects : ∀ i ∈ s.ppu.lineObjects, i < 40
  wram : Memory.wf s.wram 0x2000 = true
  hram : Memory.wf s.hram 127 = true
  vram : Memory.wf s.ppu.vram 0x2000 = true
  oam : Memory.wf s.ppu.oam 160 = true
  cartRam : Memory.wf s.cart.ram s.ramSize = true
  rom : Memory.wf s.cart.rom s.cart.romLen = true
  boot : Memory.wf s.params.boot 256 = true
  sound : Memory.wf s.ports.sound 48 = true
  framebuffer : Memory.wf s.ppu.fb (160 * 144) = true

/-- The mode that the position in the frame gives (60_exceptions.md R542). -/
def modeAt (ly : Byte) (dot : Nat) : PpuMode :=
  if 144 ≤ ly.toNat then .vblank
  else if dot < 80 then .oamScan
  else if dot < 248 then .transfer
  else .hblank

/-- The timing invariant (60_exceptions.md R542): line and dot in range, and the mode the one the position gives. -/
structure State.Timed (s : State) : Prop where
  line : s.ppu.ly.toNat ≤ 153
  dot : s.ppu.dot < 456
  mode : s.ppu.mode = modeAt s.ppu.ly s.ppu.dot

/-- The cycle counts a step returns (60_exceptions.md R455): multiples of 4 from 4 to 24. -/
def legalCycles (n : Nat) : Bool := n = 4 || n = 8 || n = 12 || n = 16 || n = 20 || n = 24

/-- `n` PPU ticks alone, stopping at a fault (60_exceptions.md R541). -/
def ppuTicks : Nat → State → Except Fault State
  | 0, s => .ok s
  | n + 1, s =>
    match ppuTick s with
    | .error f => .error f
    | .ok t => ppuTicks n t

/-- The bytes a transfer in progress has still to copy can be read as they stand (60_exceptions.md R561, R563). -/
def State.DmaReads (s : State) : Prop :=
  ∀ x, s.ppu.dmaState = some x →
    x.offset < 160 ∧ ∀ k, x.offset ≤ k → k < 160 → ∃ v, s.peek (x.source + BitVec.ofNat 16 k) = some v

/-- `n` timer ticks alone (60_exceptions.md R486). -/
def timerTicks : Nat → State → State
  | 0, s => s
  | n + 1, s => timerTicks n (timerTick s)

/-- The bytes at PC and the addresses after it are these (30_encoding.md R150). -/
def State.BytesAtPc (s : State) (bs : List Byte) : Prop :=
  ∀ k, (h : k < bs.length) → s.peek (s.cpu.pc + BitVec.ofNat 16 k) = some bs[k]

end Machine

end Sys2Proof
end

