-- ==== Sys2Proof/Certificates/Slice0/Obligations.lean ====
section
/-! DEFINITION. The statements for the provers, from the numbered rules of spec/. -/

open Sys2Proof Sys2Proof.Machine

/-! ### Encoding -/

/-- Every well-formed instruction, with every operand value, decodes back from its bytes, and the bytes after it are left. -/
def Obligations.DecodeEncode : Prop :=
  ∀ (i : Instr) (rest : List Byte), i.wellFormed = true → decode (encode i ++ rest) = .ok (i, rest)

/-- What decodes is well formed, is encoded by exactly the bytes it was decoded from, and its length, 1 to 3, is fixed by the first
byte alone (30_encoding.md R150, R162). -/
def Obligations.EncodeDecode : Prop :=
  ∀ (bs : List Byte) (i : Instr) (rest : List Byte), decode bs = .ok (i, rest) →
    encode i ++ rest = bs ∧ i.wellFormed = true ∧ 1 ≤ i.length ∧ i.length ≤ 3 ∧
    ∀ (bs' : List Byte) (j : Instr) (rest' : List Byte), bs'.head? = bs.head? → decode bs' = .ok (j, rest') →
      j.length = i.length

/-- Words written out from the opcode maps R159 and R161, one or more for each family. -/
def Obligations.OpcodeSamples : Prop :=
  decode [0x41] = .ok (.ldBC, []) ∧
  decode [0x3E, 0x7F] = .ok (.ldAImm8 0x7F, []) ∧
  decode [0xE0, 0x50] = .ok (.ldhMNA 0x50, []) ∧
  decode [0x31, 0xFE, 0xFF] = .ok (.ldSpImm16 0xFFFE, []) ∧
  decode [0xF1] = .ok (.popAf, []) ∧
  decode [0x8B] = .ok (.adcAE, []) ∧
  decode [0xFE, 0x40] = .ok (.cpImm8 0x40, []) ∧
  decode [0x35] = .ok (.decMHl, []) ∧
  decode [0x39] = .ok (.addHlSp, []) ∧
  decode [0x1F] = .ok (.rra, []) ∧
  decode [0xCB, 0x37] = .ok (.swapA, []) ∧
  decode [0xCB, 0x7C] = .ok (.bit7H, []) ∧
  decode [0xCB, 0xDE] = .ok (.set3MHl, []) ∧
  decode [0xDC, 0x00, 0x20] = .ok (.callCImm16 0x2000, []) ∧
  decode [0x20, 0xFB] = .ok (.jrNzRel 0xFB, []) ∧
  decode [0x76] = .ok (.halt, []) ∧
  decode [0xD3] = .ok (.illegalD3, [])

/-- The prefix row: 0xCB and the byte after it decode to the CB row, one 2-byte instruction (30_encoding.md R163). The model's own
term for the row, `prefixCb`, is never decoded, and has the CB row's effect (log 12); it completes with every register operand, and
with (HL) in RAM. -/
def Obligations.PrefixRow : Prop :=
  ∀ (c : Byte) (rest : List Byte) (s : State),
    decode (0xCB :: c :: rest) = .ok ((decodeCb c).instr, rest) ∧
    (decodeCb c).instr.length = 2 ∧
    (Instr.prefixCb c).wellFormed = false ∧
    exec (.prefixCb c) s = exec (decodeCb c).instr s ∧
    (c.extractLsb' 0 3 ≠ 6 ∨ plainRam s.hl → ∃ t, exec (.prefixCb c) s = .next t)

/-! ### The step -/

/-- An instruction step (60_exceptions.md R452, R580): with no interrupt to dispatch and not halted, where the bytes at PC decode to
`i`, the step is the meaning of `i` with PC past it, then one tick for each cycle it returned. F[3:0] ≠ 0 after the meaning is the
fault `FlagNibble` (10_state.md R33, R460); that it is raised before the ticks, and so leaves the state before them, is read from
R460 and R463 (log 13). That one step is one turn of the driving loop is the model's choice (log 5). -/
def Obligations.StepRunsDecoded : Prop :=
  ∀ (s : State) (bs : List Byte) (i : Instr),
    (s.cpu.ime = true → pendingSource s.irq = none) → s.cpu.halted = false →
    decode bs = .ok (i, []) → s.BytesAtPc bs →
    (∀ t u, exec i (s.setPc (s.cpu.pc + BitVec.ofNat 16 bs.length)) = .next t → t.cpu.f &&& 0x0F = 0 →
      ticks t.cycles t = .ok u → step s = .next u) ∧
    (∀ t e, exec i (s.setPc (s.cpu.pc + BitVec.ofNat 16 bs.length)) = .next t → t.cpu.f &&& 0x0F = 0 →
      ticks t.cycles t = .error e → step s = .fault e) ∧
    (∀ t, exec i (s.setPc (s.cpu.pc + BitVec.ofNat 16 bs.length)) = .next t → t.cpu.f &&& 0x0F ≠ 0 →
      step s = .fault (.flagNibble t.cpu.f t)) ∧
    (∀ e, exec i (s.setPc (s.cpu.pc + BitVec.ofNat 16 bs.length)) = .fault e → step s = .fault e)

/-- A fault of a fetch read, of the opcode or of an operand byte, ends the step with every register as it was
(30_encoding.md R162, 60_exceptions.md R463). -/
def Obligations.FetchFault : Prop :=
  ∀ (s : State) (e : Fault), (s.cpu.ime = true → pendingSource s.irq = none) → s.cpu.halted = false →
    (busRead .cpu s.cpu.pc s = .error e → step s = .fault e ∧ e.left = s) ∧
    (∀ op, busRead .cpu s.cpu.pc s = .ok op → 2 ≤ opcodeLength op → busRead .cpu (s.cpu.pc + 1) s = .error e →
      step s = .fault e ∧ e.left = s) ∧
    (∀ op b, busRead .cpu s.cpu.pc s = .ok op → opcodeLength op = 3 → busRead .cpu (s.cpu.pc + 1) s = .ok b →
      busRead .cpu (s.cpu.pc + 2) s = .error e → step s = .fault e ∧ e.left = s)

/-- Interrupt dispatch (60_exceptions.md R471, R472): IME and halted cleared, the source's request bit cleared, PC pushed, PC at the
vector, `IRQ_DISPATCH_CYCLES` (default 20) returned; every other register, every other IF bit and every byte the push does not
touch are unchanged; a push fault ends the step. -/
def Obligations.InterruptDispatch : Prop :=
  (Params.default.irqCycles.count = 20 ∧ ∀ c : IrqCycles, c.count = 16 ∨ c.count = 20) ∧
  ∀ (s : State) (src : IrqSource), s.cpu.ime = true → pendingSource s.irq = some src →
    let s' := { s with
      cpu := { s.cpu with ime := false, halted := false }
      irq := { s.irq with iflag := s.irq.iflag &&& ~~~(1#8 <<< src.bit) } }
    (∀ u, s'.pushed s.cpu.pc = .ok u →
      cpuStep s = .next { u.setPc src.vector with cycles := s.params.irqCycles.count } ∧
      (u.setPc src.vector).cpu =
        { s.cpu with ime := false, halted := false, sp := s.cpu.sp - 2, pc := BitVec.ofNat 16 (0x40 + 8 * src.bit) } ∧
      ∀ b, b ≠ 0xFF0F → touches (s.cpu.sp - 1) b = false → touches (s.cpu.sp - 2) b = false → u.peek b = s.peek b) ∧
    (∀ e, s'.pushed s.cpu.pc = .error e → cpuStep s = .fault e ∧ step s = .fault e)

/-- `pending()`: the source of the lowest set bit of IE & IF & 0x1F, none where that is 0; bit k has source k of VBlank, LCD-STAT,
Timer, Serial, Joypad (60_exceptions.md R468, R465). -/
def Obligations.PendingPriority : Prop :=
  (IrqSource.vblank.bit = 0 ∧ IrqSource.lcdStat.bit = 1 ∧ IrqSource.timer.bit = 2 ∧ IrqSource.serial.bit = 3 ∧
    IrqSource.joypad.bit = 4) ∧
  (∀ (q : Irq) (src : IrqSource), pendingSource q = some src ↔
    (q.ie &&& q.iflag &&& 0x1F).getLsbD src.bit = true ∧
    ∀ k, k < src.bit → (q.ie &&& q.iflag &&& 0x1F).getLsbD k = false) ∧
  (∀ q : Irq, pendingSource q = none ↔ q.ie &&& q.iflag &&& 0x1F = 0)

/-- HALT sets `halted` (47_system.md R421); a halted step with nothing to dispatch returns 4 cycles and changes nothing
(60_exceptions.md R454), except that with `HALT_WAKES_WITHOUT_IME` an enabled request clears `halted` (R456). -/
def Obligations.HaltedStep : Prop :=
  Params.default.haltWakes = false ∧
  ∀ s : State,
    encode Form.halt.instr = [0x76] ∧
    exec Form.halt.instr s = .next { s with cpu := { s.cpu with halted := true }, cycles := 4 } ∧
    (s.cpu.halted = true → (s.cpu.ime = true → pendingSource s.irq = none) →
      (s.params.haltWakes = false → cpuStep s = .next { s with cycles := 4 }) ∧
      (s.params.haltWakes = true → s.irq.ie &&& s.irq.iflag &&& 0x1F = 0 → cpuStep s = .next { s with cycles := 4 }) ∧
      (s.params.haltWakes = true → s.irq.ie &&& s.irq.iflag &&& 0x1F ≠ 0 →
        cpuStep s = .next { s with cpu := { s.cpu with halted := false }, cycles := 4 }))

/-! ### 8-bit loads -/

/-- `LD r,r'` and `LD r,n` (40_load8.md R200, R201). -/
def Obligations.LoadRegister : Prop :=
  ∀ (dst src : Reg8) (n : Byte) (s : State),
    encode (Form.ldRegReg dst src).instr = [0x40 + 8 * dst.code + src.code] ∧
    exec (Form.ldRegReg dst src).instr s = .next { s.setReg dst (s.reg src) with cycles := 4 } ∧
    encode (Form.ldRegImm dst n).instr = [0x06 + 8 * dst.code, n] ∧
    exec (Form.ldRegImm dst n).instr s = .next { s.setReg dst n with cycles := 8 } ∧
    ∀ r, (s.setReg dst n).reg r = if r = dst then n else s.reg r

/-- The loads from memory (40_load8.md R202, R205, R207, R209, R211): the byte read at the address of the form; a fault of the read is
the instruction's. -/
def Obligations.LoadFromMemory : Prop :=
  ∀ (dst : Reg8) (nn : Word) (n : Byte) (s : State),
    (encode (Form.ldRegMHl dst).instr = [0x46 + 8 * dst.code] ∧
      LoadsByte (.ldRegMHl dst) (wordOf s.cpu.h s.cpu.l) dst 8 s) ∧
    (encode (Form.ldAMPair .bc).instr = [0x0A] ∧ LoadsByte (.ldAMPair .bc) (wordOf s.cpu.b s.cpu.c) .a 8 s) ∧
    (encode (Form.ldAMPair .de).instr = [0x1A] ∧ LoadsByte (.ldAMPair .de) (wordOf s.cpu.d s.cpu.e) .a 8 s) ∧
    (encode (Form.ldAMImm16 nn).instr = [0xFA, nn.extractLsb' 0 8, nn.extractLsb' 8 8] ∧
      LoadsByte (.ldAMImm16 nn) nn .a 16 s) ∧
    (encode (Form.ldhAMN n).instr = [0xF0, n] ∧ LoadsByte (.ldhAMN n) (0xFF00 + n.zeroExtend 16) .a 12 s) ∧
    (encode Form.ldAMC.instr = [0xF2] ∧ LoadsByte .ldAMC (0xFF00 + s.cpu.c.zeroExtend 16) .a 8 s)

/-- The stores to memory (40_load8.md R203, R204, R206, R208, R210, R212): one bus write at the address of the form, nothing else; a
fault of the write is the instruction's. -/
def Obligations.StoreToMemory : Prop :=
  ∀ (src : Reg8) (nn : Word) (n : Byte) (s : State),
    (encode (Form.ldMHlReg src).instr = [0x70 + src.code] ∧
      StoresByte (.ldMHlReg src) (wordOf s.cpu.h s.cpu.l) (s.reg src) 8 s) ∧
    (encode (Form.ldMHlImm n).instr = [0x36, n] ∧ StoresByte (.ldMHlImm n) (wordOf s.cpu.h s.cpu.l) n 12 s) ∧
    (encode (Form.ldMPairA .bc).instr = [0x02] ∧ StoresByte (.ldMPairA .bc) (wordOf s.cpu.b s.cpu.c) s.cpu.a 8 s) ∧
    (encode (Form.ldMPairA .de).instr = [0x12] ∧ StoresByte (.ldMPairA .de) (wordOf s.cpu.d s.cpu.e) s.cpu.a 8 s) ∧
    (encode (Form.ldMImm16A nn).instr = [0xEA, nn.extractLsb' 0 8, nn.extractLsb' 8 8] ∧
      StoresByte (.ldMImm16A nn) nn s.cpu.a 16 s) ∧
    (encode (Form.ldhMNA n).instr = [0xE0, n] ∧ StoresByte (.ldhMNA n) (0xFF00 + n.zeroExtend 16) s.cpu.a 12 s) ∧
    (encode Form.ldMCA.instr = [0xE2] ∧ StoresByte .ldMCA (0xFF00 + s.cpu.c.zeroExtend 16) s.cpu.a 8 s)

/-- `LD (HL+),A`, `LD (HL-),A`, `LD A,(HL+)` and `LD A,(HL-)` (40_load8.md R213 to R216): the access at HL, then HL stepped modulo
2^16; on a fault nothing is written. -/
def Obligations.LoadStoreHlStep : Prop :=
  ∀ s : State,
    let hl := wordOf s.cpu.h s.cpu.l
    (encode Form.ldMHlIncA.instr = [0x22] ∧
      (∀ t, busWrite hl s.cpu.a s = .ok t → exec Form.ldMHlIncA.instr s = .next { t.setPair .hl (hl + 1) with cycles := 8 }) ∧
      ∀ e, busWrite hl s.cpu.a s = .error e → exec Form.ldMHlIncA.instr s = .fault e) ∧
    (encode Form.ldMHlDecA.instr = [0x32] ∧
      (∀ t, busWrite hl s.cpu.a s = .ok t → exec Form.ldMHlDecA.instr s = .next { t.setPair .hl (hl - 1) with cycles := 8 }) ∧
      ∀ e, busWrite hl s.cpu.a s = .error e → exec Form.ldMHlDecA.instr s = .fault e) ∧
    (encode Form.ldAMHlInc.instr = [0x2A] ∧
      (∀ v, s.peek hl = some v →
        exec Form.ldAMHlInc.instr s = .next { (s.setReg .a v).setPair .hl (hl + 1) with cycles := 8 }) ∧
      ∀ e, busRead .cpu hl s = .error e → exec Form.ldAMHlInc.instr s = .fault e) ∧
    (encode Form.ldAMHlDec.instr = [0x3A] ∧
      (∀ v, s.peek hl = some v →
        exec Form.ldAMHlDec.instr s = .next { (s.setReg .a v).setPair .hl (hl - 1) with cycles := 8 }) ∧
      ∀ e, busRead .cpu hl s = .error e → exec Form.ldAMHlDec.instr s = .fault e)

/-! ### 16-bit loads and arithmetic -/

/-- The pair views (10_state.md R35, R36): a view reads its two registers, the first named the high byte; a write of it writes both,
and a write of AF masks F. -/
def Obligations.PairViews : Prop :=
  ∀ (s : State) (v : Word),
    (s.pair .bc = wordOf s.cpu.b s.cpu.c ∧ s.pair .de = wordOf s.cpu.d s.cpu.e ∧ s.pair .hl = wordOf s.cpu.h s.cpu.l ∧
      s.stackPair .bc = s.pair .bc ∧ s.stackPair .de = s.pair .de ∧ s.stackPair .hl = s.pair .hl ∧
      s.stackPair .af = wordOf s.cpu.a s.cpu.f) ∧
    (s.setPair .bc v).cpu = { s.cpu with b := v.extractLsb' 8 8, c := v.extractLsb' 0 8 } ∧
    (s.setPair .de v).cpu = { s.cpu with d := v.extractLsb' 8 8, e := v.extractLsb' 0 8 } ∧
    (s.setPair .hl v).cpu = { s.cpu with h := v.extractLsb' 8 8, l := v.extractLsb' 0 8 } ∧
    (s.setPair .sp v).cpu = { s.cpu with sp := v } ∧
    (s.setStackPair .bc v = s.setPair .bc v ∧ s.setStackPair .de v = s.setPair .de v ∧
      s.setStackPair .hl v = s.setPair .hl v) ∧
    (s.setStackPair .af v).cpu = { s.cpu with a := v.extractLsb' 8 8, f := v.extractLsb' 0 8 &&& 0xF0 } ∧
    ∀ p, (s.setPair p v).pair p = v

/-- `LD rr,nn`, `LD SP,HL`, `INC rr` and `DEC rr` (41_load16.md R240, R242, 43_alu16.md R321, R322): no flag is written. -/
def Obligations.PairMoves : Prop :=
  ∀ (p : Pair) (nn : Word) (s : State),
    (encode (Form.ldPairImm p nn).instr = [0x01 + 16 * p.code, nn.extractLsb' 0 8, nn.extractLsb' 8 8] ∧
      exec (Form.ldPairImm p nn).instr s = .next { s.setPair p nn with cycles := 12 }) ∧
    (encode Form.ldSpHl.instr = [0xF9] ∧
      exec Form.ldSpHl.instr s = .next { s with cpu := { s.cpu with sp := s.pair .hl }, cycles := 8 }) ∧
    (encode (Form.incPair p).instr = [0x03 + 16 * p.code] ∧
      exec (Form.incPair p).instr s = .next { s.setPair p (s.pair p + 1) with cycles := 8 }) ∧
    (encode (Form.decPair p).instr = [0x0B + 16 * p.code] ∧
      exec (Form.decPair p).instr s = .next { s.setPair p (s.pair p - 1) with cycles := 8 })

/-- `LD (nn),SP` (41_load16.md R241): the low byte at nn, then the high byte at nn + 1; if the second write faults the first has been
made. -/
def Obligations.StoreSp : Prop :=
  ∀ (nn : Word) (s : State),
    encode (Form.ldMImm16Sp nn).instr = [0x08, nn.extractLsb' 0 8, nn.extractLsb' 8 8] ∧
    (∀ t, busWrite nn (s.cpu.sp.extractLsb' 0 8) s = .ok t →
      (∀ u, busWrite (nn + 1) (s.cpu.sp.extractLsb' 8 8) t = .ok u →
        exec (Form.ldMImm16Sp nn).instr s = .next { u with cycles := 20 }) ∧
      (∀ e, busWrite (nn + 1) (s.cpu.sp.extractLsb' 8 8) t = .error e →
        exec (Form.ldMImm16Sp nn).instr s = .fault e ∧ e.left = t)) ∧
    (∀ e, busWrite nn (s.cpu.sp.extractLsb' 0 8) s = .error e → exec (Form.ldMImm16Sp nn).instr s = .fault e)

/-- `LD HL,SP+e` and `ADD SP,e` (41_load16.md R245, 43_alu16.md R323): the 16-bit sum with the sign-extended displacement; Z and N
cleared; H and C the carries out of bits 3 and 7 of the low byte plus the displacement byte. -/
def Obligations.SpDisplacement : Prop :=
  ∀ (e : Byte) (s : State),
    let h := decide (0x0F < s.cpu.sp.toNat % 16 + e.toNat % 16)
    let c := decide (0xFF < s.cpu.sp.toNat % 256 + e.toNat)
    (encode (Form.ldHlSpRel e).instr = [0xF8, e] ∧
      ∃ u, exec (Form.ldHlSpRel e).instr s = .next u ∧
        SetsFlags (s.setPair .hl (s.cpu.sp + e.signExtend 16)) u false false h c 12) ∧
    (encode (Form.addSpRel e).instr = [0xE8, e] ∧
      ∃ u, exec (Form.addSpRel e).instr s = .next u ∧
        SetsFlags (s.setPair .sp (s.cpu.sp + e.signExtend 16)) u false false h c 16)

/-- `PUSH rr` (41_load16.md R243, 00_scope.md R17): the high byte to SP − 1, the low byte to SP − 2, SP 2 lower; nothing else; a
fault of either write leaves SP decremented for each write attempted. -/
def Obligations.PushPair : Prop :=
  ∀ (p : StackPair) (s : State),
    encode (Form.push p).instr = [0xC5 + 16 * p.code] ∧
    (∀ u, s.pushed (s.stackPair p) = .ok u →
      exec (Form.push p).instr s = .next { u with cycles := 16 } ∧ u.cpu = { s.cpu with sp := s.cpu.sp - 2 }) ∧
    (∀ e, s.pushed (s.stackPair p) = .error e → exec (Form.push p).instr s = .fault e ∧
      (e.left.cpu.sp = s.cpu.sp - 1 ∨ e.left.cpu.sp = s.cpu.sp - 2))

/-- `POP rr` (41_load16.md R244): the word from SP and SP + 1, SP 2 higher; `POP AF` masks F, the other forms write no flag; on a
fault rr is not written. -/
def Obligations.PopPair : Prop :=
  ∀ (p : StackPair) (s : State),
    encode (Form.pop p).instr = [0xC1 + 16 * p.code] ∧
    (∀ lo hi, s.peek s.cpu.sp = some lo → s.peek (s.cpu.sp + 1) = some hi →
      exec (Form.pop p).instr s =
        .next { (s.setPair .sp (s.cpu.sp + 2)).setStackPair p (wordOf hi lo) with cycles := 12 }) ∧
    PopFaults (.pop p) s

/-- A push then a pop of any pair reproduces the 16-bit value (AF with its low nibble cleared) and the value of SP, where the two
stack bytes lie in RAM (41_load16.md R244, 00_scope.md R17). -/
def Obligations.PushPopRoundTrip : Prop :=
  ∀ (p q : StackPair) (s : State), plainRam (s.cpu.sp - 1) → plainRam (s.cpu.sp - 2) →
    ∃ t u, exec (Form.push p).instr s = .next t ∧ exec (Form.pop q).instr t = .next u ∧
      u.stackPair q = (if q = .af then s.stackPair p &&& 0xFFF0 else s.stackPair p) ∧ u.cpu.sp = s.cpu.sp

/-! ### 8-bit arithmetic and logic -/

/-- `ADD A,src` and `ADC A,src` (42_alu8.md R271, R272): sum modulo 256; Z, N = 0, H and C the carries out of bits 3 and 7, each with
the incoming carry for ADC; nothing else. -/
def Obligations.AddCarry : Prop :=
  ∀ (x : AluSrc) (s : State),
    (AluEncodes .add ∧ AluEncodes .adc ∧ AluFaults .add s ∧ AluFaults .adc s) ∧
    ∀ v, x.value s = some v →
      (∃ u, exec (Form.alu .add x).instr s = .next u ∧
        SetsFlags (s.setReg .a (s.cpu.a + v)) u (decide (s.cpu.a + v = 0)) false
          (decide (0x0F < s.cpu.a.toNat % 16 + v.toNat % 16)) (decide (0xFF < s.cpu.a.toNat + v.toNat)) (sourceCycles x)) ∧
      (let c : Nat := if s.cf then 1 else 0
        let r := s.cpu.a + v + BitVec.ofNat 8 c
        ∃ u, exec (Form.alu .adc x).instr s = .next u ∧
          SetsFlags (s.setReg .a r) u (decide (r = 0)) false
            (decide (0x0F < s.cpu.a.toNat % 16 + v.toNat % 16 + c)) (decide (0xFF < s.cpu.a.toNat + v.toNat + c))
            (sourceCycles x))

/-- `SUB src`, `SBC A,src` and `CP src` (42_alu8.md R273, R274, R278): difference modulo 256; Z, N = 1, H and C the borrows, each with
the incoming carry for SBC; CP writes the flags of SUB and not A. -/
def Obligations.SubCompare : Prop :=
  ∀ (x : AluSrc) (s : State),
    (AluEncodes .sub ∧ AluEncodes .sbc ∧ AluEncodes .cp ∧ AluFaults .sub s ∧ AluFaults .sbc s ∧ AluFaults .cp s) ∧
    ∀ v, x.value s = some v →
      (∃ u, exec (Form.alu .sub x).instr s = .next u ∧
        SetsFlags (s.setReg .a (s.cpu.a - v)) u (decide (s.cpu.a - v = 0)) true
          (decide (s.cpu.a.toNat % 16 < v.toNat % 16)) (decide (s.cpu.a.toNat < v.toNat)) (sourceCycles x)) ∧
      (let c : Nat := if s.cf then 1 else 0
        let r := s.cpu.a - v - BitVec.ofNat 8 c
        ∃ u, exec (Form.alu .sbc x).instr s = .next u ∧
          SetsFlags (s.setReg .a r) u (decide (r = 0)) true
            (decide (s.cpu.a.toNat % 16 < v.toNat % 16 + c)) (decide (s.cpu.a.toNat < v.toNat + c)) (sourceCycles x)) ∧
      (∃ u, exec (Form.alu .cp x).instr s = .next u ∧
        SetsFlags s u (decide (s.cpu.a - v = 0)) true
          (decide (s.cpu.a.toNat % 16 < v.toNat % 16)) (decide (s.cpu.a.toNat < v.toNat)) (sourceCycles x))

/-- `AND src`, `XOR src` and `OR src` (42_alu8.md R275 to R277): Z from the result, N and C cleared, H set by AND alone. -/
def Obligations.Logic : Prop :=
  ∀ (x : AluSrc) (s : State),
    (AluEncodes .and ∧ AluEncodes .xor ∧ AluEncodes .or ∧ AluFaults .and s ∧ AluFaults .xor s ∧ AluFaults .or s) ∧
    ∀ v, x.value s = some v →
      (∃ u, exec (Form.alu .and x).instr s = .next u ∧
        SetsFlags (s.setReg .a (s.cpu.a &&& v)) u (decide (s.cpu.a &&& v = 0)) false true false (sourceCycles x)) ∧
      (∃ u, exec (Form.alu .xor x).instr s = .next u ∧
        SetsFlags (s.setReg .a (s.cpu.a ^^^ v)) u (decide (s.cpu.a ^^^ v = 0)) false false false (sourceCycles x)) ∧
      (∃ u, exec (Form.alu .or x).instr s = .next u ∧
        SetsFlags (s.setReg .a (s.cpu.a ||| v)) u (decide (s.cpu.a ||| v = 0)) false false false (sourceCycles x))

/-- `INC r`, `DEC r`, `INC (HL)` and `DEC (HL)` (42_alu8.md R279 to R282): Z, N, H as an addition or subtraction of 1, C unchanged;
the (HL) forms read, then write, then set the flags, and a fault of either access ends them. -/
def Obligations.IncDec : Prop :=
  ∀ (r : Reg8) (s : State),
    (encode (Form.incReg r).instr = [0x04 + 8 * r.code] ∧
      ∃ u, exec (Form.incReg r).instr s = .next u ∧
        SetsFlags (s.setReg r (s.reg r + 1)) u (decide (s.reg r + 1 = 0)) false
          (decide ((s.reg r).toNat % 16 = 0x0F)) s.cf 4) ∧
    (encode (Form.decReg r).instr = [0x05 + 8 * r.code] ∧
      ∃ u, exec (Form.decReg r).instr s = .next u ∧
        SetsFlags (s.setReg r (s.reg r - 1)) u (decide (s.reg r - 1 = 0)) true
          (decide ((s.reg r).toNat % 16 = 0)) s.cf 4) ∧
    (encode Form.incMHl.instr = [0x34] ∧ encode Form.decMHl.instr = [0x35]) ∧
    (∀ e, busRead .cpu (s.pair .hl) s = .error e →
      exec Form.incMHl.instr s = .fault e ∧ exec Form.decMHl.instr s = .fault e) ∧
    ∀ v, s.peek (s.pair .hl) = some v →
      (∀ t, busWrite (s.pair .hl) (v + 1) s = .ok t → ∃ u, exec Form.incMHl.instr s = .next u ∧
        SetsFlags t u (decide (v + 1 = 0)) false (decide (v.toNat % 16 = 0x0F)) s.cf 12) ∧
      (∀ e, busWrite (s.pair .hl) (v + 1) s = .error e → exec Form.incMHl.instr s = .fault e) ∧
      (∀ t, busWrite (s.pair .hl) (v - 1) s = .ok t → ∃ u, exec Form.decMHl.instr s = .next u ∧
        SetsFlags t u (decide (v - 1 = 0)) true (decide (v.toNat % 16 = 0)) s.cf 12) ∧
      (∀ e, busWrite (s.pair .hl) (v - 1) s = .error e → exec Form.decMHl.instr s = .fault e)

/-- `DAA` (42_alu8.md R283): after an addition 0x60 is added where C is set or A is above 0x99, and C is then set, and 0x06 where H is
set or the low nibble is above 9; after a subtraction they are subtracted where C, and where H, is set; Z from the result, N
unchanged, H cleared. -/
def Obligations.DecimalAdjust : Prop :=
  ∀ s : State,
    let a := s.cpu.a
    let up := s.cf || decide (0x99 < a.toNat)
    let sum := a + (if up then 0x60 else 0) + (if s.hf || decide (9 < a.toNat % 16) then 0x06 else 0)
    let diff := a - (if s.cf then 0x60 else 0) - (if s.hf then 0x06 else 0)
    encode Form.daa.instr = [0x27] ∧
    (s.nf = false → ∃ u, exec Form.daa.instr s = .next u ∧
      SetsFlags (s.setReg .a sum) u (decide (sum = 0)) false false up 4) ∧
    (s.nf = true → ∃ u, exec Form.daa.instr s = .next u ∧
      SetsFlags (s.setReg .a diff) u (decide (diff = 0)) true false s.cf 4)

/-- What DAA is for: after adding two decimal bytes it leaves their decimal sum modulo 100 with C the decimal carry, and after
subtracting them their decimal difference with C the decimal borrow (42_alu8.md R283, "the standard BCD-correction table"). -/
def Obligations.DecimalArithmetic : Prop :=
  ∀ (m n : Nat) (s : State), m < 100 → n < 100 → s.cpu.a = bcd m → s.cpu.b = bcd n →
    (∃ t u, exec .addAB s = .next t ∧ exec .daa t = .next u ∧ u.cpu.a = bcd ((m + n) % 100) ∧ u.cf = decide (100 ≤ m + n)) ∧
    (∃ t u, exec .subB s = .next t ∧ exec .daa t = .next u ∧ u.cpu.a = bcd ((m + 100 - n) % 100) ∧ u.cf = decide (m < n))

/-- `CPL`, `SCF` and `CCF` (42_alu8.md R284 to R286). -/
def Obligations.ComplementCarry : Prop :=
  ∀ s : State,
    (encode Form.cpl.instr = [0x2F] ∧
      ∃ u, exec Form.cpl.instr s = .next u ∧ SetsFlags (s.setReg .a (~~~s.cpu.a)) u s.zf true true s.cf 4) ∧
    (encode Form.scf.instr = [0x37] ∧ ∃ u, exec Form.scf.instr s = .next u ∧ SetsFlags s u s.zf false false true 4) ∧
    (encode Form.ccf.instr = [0x3F] ∧ ∃ u, exec Form.ccf.instr s = .next u ∧ SetsFlags s u s.zf false false (!s.cf) 4)

/-- `ADD HL,rr` (43_alu16.md R320): H the carry out of bit 11, C out of bit 15, N cleared, Z unchanged. -/
def Obligations.AddHl : Prop :=
  ∀ (p : Pair) (s : State),
    encode (Form.addHlPair p).instr = [0x09 + 16 * p.code] ∧
    ∃ u, exec (Form.addHlPair p).instr s = .next u ∧
      SetsFlags (s.setPair .hl (s.pair .hl + s.pair p)) u s.zf false
        (decide (0x0FFF < (s.pair .hl).toNat % 0x1000 + (s.pair p).toNat % 0x1000))
        (decide (0xFFFF < (s.pair .hl).toNat + (s.pair p).toNat)) 8

/-! ### Rotates, shifts and bits -/

/-- `RLCA`, `RRCA`, `RLA` and `RRA` (44_rotate_shift.md R340 to R343): Z, N and H always cleared, C the bit rotated out. -/
def Obligations.RotateA : Prop :=
  ∀ s : State,
    let a := s.cpu.a
    (encode Form.rlca.instr = [0x07] ∧ ∃ u, exec Form.rlca.instr s = .next u ∧
      SetsFlags (s.setReg .a ((a <<< 1) ||| (a >>> 7))) u false false false (a.getLsbD 7) 4) ∧
    (encode Form.rrca.instr = [0x0F] ∧ ∃ u, exec Form.rrca.instr s = .next u ∧
      SetsFlags (s.setReg .a ((a >>> 1) ||| (a <<< 7))) u false false false (a.getLsbD 0) 4) ∧
    (encode Form.rla.instr = [0x17] ∧ ∃ u, exec Form.rla.instr s = .next u ∧
      SetsFlags (s.setReg .a ((a <<< 1) ||| (if s.cf then 1 else 0))) u false false false (a.getLsbD 7) 4) ∧
    (encode Form.rra.instr = [0x1F] ∧ ∃ u, exec Form.rra.instr s = .next u ∧
      SetsFlags (s.setReg .a ((a >>> 1) ||| (if s.cf then 0x80 else 0))) u false false false (a.getLsbD 0) 4)

/-- `RLC`, `RRC`, `RL`, `RR`, `SLA`, `SRA`, `SWAP` and `SRL` of a register or (HL) (44_rotate_shift.md R344 to R351): the result and
carry of `rotSpec` written to the operand, Z from the result, N and H cleared; if the write faults no flag is written. -/
def Obligations.RotateOperand : Prop :=
  ∀ (op : RotOp) (t : Operand8) (s : State),
    encode (Form.rot op t).instr = [0xCB, 8 * op.code + t.code] ∧
    (∀ v w, t.value s = some v → t.written (rotSpec op v s.cf).1 s = .ok w →
      ∃ u, exec (Form.rot op t).instr s = .next u ∧
        SetsFlags w u (decide ((rotSpec op v s.cf).1 = 0)) false false (rotSpec op v s.cf).2 (if t = .mhl then 16 else 8)) ∧
    (∀ e, t = .mhl → busRead .cpu s.hl s = .error e → exec (Form.rot op t).instr s = .fault e) ∧
    (∀ v e, t.value s = some v → t.written (rotSpec op v s.cf).1 s = .error e → exec (Form.rot op t).instr s = .fault e)

/-- `BIT b,t` (45_bit.md R370): Z the complement of the bit, N = 0, H = 1, C unchanged, nothing written. -/
def Obligations.BitTest : Prop :=
  ∀ (b : Bit3) (t : Operand8) (s : State),
    encode (Form.bit b t).instr = [0xCB, 0x40 + 8 * b.code + t.code] ∧
    (∀ v, t.value s = some v → ∃ u, exec (Form.bit b t).instr s = .next u ∧
      SetsFlags s u (!v.getLsbD b.code.toNat) false true s.cf (if t = .mhl then 12 else 8)) ∧
    (∀ e, t = .mhl → busRead .cpu s.hl s = .error e → exec (Form.bit b t).instr s = .fault e)

/-- `RES b,t` and `SET b,t` (45_bit.md R371, R372): the bit cleared or set, no flag written. -/
def Obligations.BitResetSet : Prop :=
  ∀ (b : Bit3) (t : Operand8) (s : State),
    let c := if t = .mhl then 16 else 8
    (encode (Form.res b t).instr = [0xCB, 0x80 + 8 * b.code + t.code] ∧
      encode (Form.set b t).instr = [0xCB, 0xC0 + 8 * b.code + t.code]) ∧
    (∀ v, t.value s = some v →
      (∀ w, t.written (v &&& ~~~(1#8 <<< b.code.toNat)) s = .ok w → exec (Form.res b t).instr s = .next { w with cycles := c }) ∧
      (∀ e, t.written (v &&& ~~~(1#8 <<< b.code.toNat)) s = .error e → exec (Form.res b t).instr s = .fault e) ∧
      (∀ w, t.written (v ||| 1#8 <<< b.code.toNat) s = .ok w → exec (Form.set b t).instr s = .next { w with cycles := c }) ∧
      (∀ e, t.written (v ||| 1#8 <<< b.code.toNat) s = .error e → exec (Form.set b t).instr s = .fault e)) ∧
    (∀ e, t = .mhl → busRead .cpu s.hl s = .error e →
      exec (Form.res b t).instr s = .fault e ∧ exec (Form.set b t).instr s = .fault e)

/-! ### Control transfers -/

/-- The conditions, and `JP nn`, `JP cc,nn`, `JP HL`, `JR e`, `JR cc,e` (46_control.md R401, R390 to R394): a relative target counts
from the next instruction. -/
def Obligations.Jumps : Prop :=
  ∀ (cc : Cond) (nn : Word) (e : Byte) (s : State),
    (s.cond .nz = !s.zf ∧ s.cond .z = s.zf ∧ s.cond .nc = !s.cf ∧ s.cond .c = s.cf) ∧
    (encode (Form.jp nn).instr = [0xC3, nn.extractLsb' 0 8, nn.extractLsb' 8 8] ∧
      exec (Form.jp nn).instr s = .next { s.setPc nn with cycles := 16 }) ∧
    (encode (Form.jpCond cc nn).instr = [0xC2 + 8 * cc.code, nn.extractLsb' 0 8, nn.extractLsb' 8 8] ∧
      exec (Form.jpCond cc nn).instr s =
        .next (if s.cond cc then { s.setPc nn with cycles := 16 } else { s with cycles := 12 })) ∧
    (encode Form.jpHl.instr = [0xE9] ∧ exec Form.jpHl.instr s = .next { s.setPc (s.pair .hl) with cycles := 4 }) ∧
    (encode (Form.jr e).instr = [0x18, e] ∧
      exec (Form.jr e).instr s = .next { s.setPc (s.cpu.pc + e.signExtend 16) with cycles := 12 }) ∧
    (encode (Form.jrCond cc e).instr = [0x20 + 8 * cc.code, e] ∧
      exec (Form.jrCond cc e).instr s =
        .next (if s.cond cc then { s.setPc (s.cpu.pc + e.signExtend 16) with cycles := 12 } else { s with cycles := 8 }))

/-- `CALL nn`, `CALL cc,nn` and `RST t` (46_control.md R395, R396, R400): PC, the address of the next instruction, is pushed, then PC
is the target; a call not taken makes no access. -/
def Obligations.Calls : Prop :=
  ∀ (cc : Cond) (nn : Word) (k : Bit3) (s : State),
    (encode (Form.call nn).instr = [0xCD, nn.extractLsb' 0 8, nn.extractLsb' 8 8] ∧
      PushesWord (.call nn) s.cpu.pc nn 24 s) ∧
    (encode (Form.callCond cc nn).instr = [0xC4 + 8 * cc.code, nn.extractLsb' 0 8, nn.extractLsb' 8 8] ∧
      (s.cond cc = true → PushesWord (.callCond cc nn) s.cpu.pc nn 24 s) ∧
      (s.cond cc = false → exec (Form.callCond cc nn).instr s = .next { s with cycles := 12 })) ∧
    (encode (Form.rst k).instr = [0xC7 + 8 * k.code] ∧
      PushesWord (.rst k) s.cpu.pc (BitVec.ofNat 16 (8 * k.code.toNat)) 16 s)

/-- `RET`, `RET cc` and `RETI` (46_control.md R397 to R399): PC is popped; RETI also sets IME; a return not taken makes no access; on
a fault of a read neither PC nor IME changes. -/
def Obligations.Returns : Prop :=
  ∀ (cc : Cond) (s : State),
    (encode Form.ret.instr = [0xC9] ∧ encode (Form.retCond cc).instr = [0xC0 + 8 * cc.code] ∧
      encode Form.reti.instr = [0xD9]) ∧
    (∀ lo hi, s.peek s.cpu.sp = some lo → s.peek (s.cpu.sp + 1) = some hi →
      exec Form.ret.instr s =
        .next { s with cpu := { s.cpu with sp := s.cpu.sp + 2, pc := wordOf hi lo }, cycles := 16 } ∧
      (s.cond cc = true → exec (Form.retCond cc).instr s =
        .next { s with cpu := { s.cpu with sp := s.cpu.sp + 2, pc := wordOf hi lo }, cycles := 20 }) ∧
      exec Form.reti.instr s =
        .next { s with cpu := { s.cpu with sp := s.cpu.sp + 2, pc := wordOf hi lo, ime := true }, cycles := 16 }) ∧
    (s.cond cc = false → exec (Form.retCond cc).instr s = .next { s with cycles := 8 }) ∧
    (PopFaults .ret s ∧ PopFaults .reti s ∧ (s.cond cc = true → PopFaults (.retCond cc) s))

/-! ### System -/

/-- `NOP`, `DI` and `EI` (47_system.md R420, R423, R424): IME changes at once, and a step with IME set and a source pending
dispatches. -/
def Obligations.SystemOps : Prop :=
  ∀ s : State,
    (encode Form.nop.instr = [0x00] ∧ exec Form.nop.instr s = .next { s with cycles := 4 }) ∧
    (encode Form.di.instr = [0xF3] ∧
      exec Form.di.instr s = .next { s with cpu := { s.cpu with ime := false }, cycles := 4 }) ∧
    (encode Form.ei.instr = [0xFB] ∧
      exec Form.ei.instr s = .next { s with cpu := { s.cpu with ime := true }, cycles := 4 }) ∧
    ∀ src, s.cpu.ime = true → pendingSource s.irq = some src → cpuStep s = dispatchIrq src s

/-- `STOP` and the gaps (47_system.md R422, R425): always the fault `Unsupported`, or `IllegalOpcode`, with the address and byte of the
opcode; the gaps are the 11 bytes of 30_encoding.md R160, of length 1. The address is that of the instruction's first byte in a
state with PC past it (60_exceptions.md R452), so PC - 2 and PC - 1 (log 17). -/
def Obligations.StopAndGaps : Prop :=
  ∀ (n : Byte) (g : Gap) (s : State),
    (encode (Form.stop n).instr = [0x10, n] ∧
      exec (Form.stop n).instr s = .fault (.unsupported (s.cpu.pc - 2) 0x10 s)) ∧
    ([Gap.gd3, .gdb, .gdd, .ge3, .ge4, .geb, .gec, .ged, .gf4, .gfc, .gfd].map gapOpcode =
      [0xD3, 0xDB, 0xDD, 0xE3, 0xE4, 0xEB, 0xEC, 0xED, 0xF4, 0xFC, 0xFD]) ∧
    (encode (Form.illegal g).instr = [gapOpcode g] ∧
      exec (Form.illegal g).instr s = .fault (.illegalOpcode (s.cpu.pc - 1) (gapOpcode g) s))

/-! ### Frames -/

/-- What an instruction leaves unchanged of the CPU: every general register but its destinations, every flag but those its rule
names, SP, PC, IME and `halted` but in the forms that write them (10_state.md R31, R34, R37, R39, R40, R41). -/
def Obligations.FrameRegisters : Prop :=
  ∀ (f : Form) (s t : State), exec f.instr s = .next t →
    (∀ r, f.writesReg r = false → t.reg r = s.reg r) ∧
    t.cpu.f &&& ~~~f.flagMask = s.cpu.f &&& ~~~f.flagMask ∧
    (f.writesSp = false → t.cpu.sp = s.cpu.sp) ∧
    (f.writesPc = false → t.cpu.pc = s.cpu.pc) ∧
    (f.writesIme = false → t.cpu.ime = s.cpu.ime) ∧
    (f.writesHalted = false → t.cpu.halted = s.cpu.halted)

/-- A form that stores nothing changes nothing outside the CPU registers: no memory, device or cartridge state, and every address
reads as before. -/
def Obligations.FrameNoStore : Prop :=
  ∀ (f : Form) (s t : State), f.storeAddrs s = [] → exec f.instr s = .next t →
    SameOutsideCpu s t ∧ ∀ a, t.peek a = s.peek a

/-- A form that stores changes the reading of no address but those its stores touch: the stored bytes, and, for a store to a control
address, the window whose mapping it changes (20_memory.md R87); the ROM, the parameters, the picture and the PPU's position are
unchanged. -/
def Obligations.FrameStores : Prop :=
  ∀ (f : Form) (s t : State), exec f.instr s = .next t →
    (∀ b, (∀ a ∈ f.storeAddrs s, touches a b = false) → t.peek b = s.peek b) ∧
    t.params = s.params ∧ t.cart.rom = s.cart.rom ∧ t.cart.romLen = s.cart.romLen ∧ t.ppu.fb = s.ppu.fb ∧
    t.ppu.dot = s.ppu.dot ∧ t.ppu.mode = s.ppu.mode ∧ t.ppu.ly = s.ppu.ly

/-! ### The bus and the cartridge -/

/-- The read dispatch of the bus, every row (20_memory.md R80, with R114 to R116 for the cartridge). -/
def Obligations.BusReads : Prop :=
  ∀ (g : Agent) (s : State) (a : Word),
    let n := a.toNat
    (s.overlay = true → n ≤ 0xFF → busRead g a s = .ok (Memory.read s.params.boot n)) ∧
    (¬(s.overlay = true ∧ n ≤ 0xFF) → n ≤ 0x3FFF →
      (n < s.cart.romLen → busRead g a s = .ok (Memory.read s.cart.rom n)) ∧
      (s.cart.romLen ≤ n → busRead g a s = .error (.romBounds g a 0 s))) ∧
    (0x4000 ≤ n → n ≤ 0x7FFF →
      (s.cart.bank.toNat * 0x4000 + (n - 0x4000) < s.cart.romLen →
        busRead g a s = .ok (Memory.read s.cart.rom (s.cart.bank.toNat * 0x4000 + (n - 0x4000)))) ∧
      (s.cart.romLen ≤ s.cart.bank.toNat * 0x4000 + (n - 0x4000) →
        busRead g a s = .error (.romBounds g a s.cart.bank s))) ∧
    (0x8000 ≤ n → n ≤ 0x9FFF → busRead g a s = .ok (Memory.read s.ppu.vram (n - 0x8000))) ∧
    (0xA000 ≤ n → n ≤ 0xBFFF →
      (0 < s.ramSize → s.cart.ramEnabled = true → busRead g a s = .ok (Memory.read s.cart.ram (n - 0xA000))) ∧
      (s.ramSize = 0 ∨ s.cart.ramEnabled = false → busRead g a s = .error (.cartRam g (.read a) s))) ∧
    (0xC000 ≤ n → n ≤ 0xDFFF → busRead g a s = .ok (Memory.read s.wram (n - 0xC000))) ∧
    (s.params.oamWindow = true → 0xFE00 ≤ n → n ≤ 0xFE9F → busRead g a s = .ok (Memory.read s.ppu.oam (n - 0xFE00))) ∧
    (n = 0xFF00 → busRead g a s = .ok (Config.joypRead s.ports.joypSel)) ∧
    (n = 0xFF01 → busRead g a s = .ok s.ports.sb) ∧
    (n = 0xFF02 → busRead g a s = .ok s.ports.sc) ∧
    (n = 0xFF04 → busRead g a s = .ok (s.timer.cnt.extractLsb' 8 8)) ∧
    (n = 0xFF05 → busRead g a s = .ok s.timer.tima) ∧
    (n = 0xFF06 → busRead g a s = .ok s.timer.tma) ∧
    (n = 0xFF07 → busRead g a s = .ok s.timer.tac) ∧
    (n = 0xFF0F → busRead g a s = .ok s.irq.iflag) ∧
    (0xFF10 ≤ n → n ≤ 0xFF3F → busRead g a s = .ok (Memory.read s.ports.sound (n - 0xFF10))) ∧
    (n = 0xFF40 → busRead g a s = .ok s.ppu.lcdc) ∧
    (n = 0xFF41 → ∃ v, busRead g a s = .ok v ∧ v.getLsbD 7 = Config.statBit7 ∧ v.extractLsb' 3 4 = s.ppu.statSel ∧
      v.getLsbD 2 = s.ppu.coincidence ∧ v.extractLsb' 0 2 = modeBits s.ppu.mode) ∧
    (n = 0xFF42 → busRead g a s = .ok s.ppu.scy) ∧
    (n = 0xFF43 → busRead g a s = .ok s.ppu.scx) ∧
    (n = 0xFF44 → busRead g a s = .ok s.ppu.ly) ∧
    (n = 0xFF45 → busRead g a s = .ok s.ppu.lyc) ∧
    (n = 0xFF46 → busRead g a s = .ok s.ppu.dma) ∧
    (n = 0xFF47 → busRead g a s = .ok s.ppu.bgp) ∧
    (n = 0xFF48 → busRead g a s = .ok s.ppu.obp0) ∧
    (n = 0xFF49 → busRead g a s = .ok s.ppu.obp1) ∧
    (n = 0xFF4A → busRead g a s = .ok s.ppu.wy) ∧
    (n = 0xFF4B → busRead g a s = .ok s.ppu.wx) ∧
    (0xFF80 ≤ n → n ≤ 0xFFFE → busRead g a s = .ok (Memory.read s.hram (n - 0xFF80))) ∧
    (n = 0xFFFF → busRead g a s = .ok s.irq.ie) ∧
    (unmappedAddr s.params.oamWindow a ∨ n = 0xFF50 → busRead g a s = .error (.unmapped g (.read a) s))

/-- The write dispatch of the bus, every row but the PPU's own faults and DMA start (20_memory.md R81, with R117 to R120 for the
cartridge and 60_exceptions.md R482, R522, R570 to R572 for the registers). -/
def Obligations.BusWrites : Prop :=
  ∀ (s : State) (a : Word) (v : Byte),
    let n := a.toNat
    (n ≤ 0x1FFF → busWrite a v s = .ok { s with cart := { s.cart with ramEnabled := decide (v.toNat % 16 = 0x0A) } }) ∧
    (0x2000 ≤ n → n ≤ 0x3FFF →
      busWrite a v s = .ok { s with cart := { s.cart with bank := BitVec.ofNat 8 (max v.toNat 1) } }) ∧
    (0x4000 ≤ n → n ≤ 0x7FFF → busWrite a v s = .error (.unmapped .cpu (.write a v) s)) ∧
    (0x8000 ≤ n → n ≤ 0x9FFF →
      busWrite a v s = .ok { s with ppu := { s.ppu with vram := Memory.write s.ppu.vram (n - 0x8000) v } }) ∧
    (0xA000 ≤ n → n ≤ 0xBFFF →
      (0 < s.ramSize → s.cart.ramEnabled = true →
        busWrite a v s = .ok { s with cart := { s.cart with ram := Memory.write s.cart.ram (n - 0xA000) v } }) ∧
      (s.ramSize = 0 ∨ s.cart.ramEnabled = false → busWrite a v s = .error (.cartRam .cpu (.write a v) s))) ∧
    (0xC000 ≤ n → n ≤ 0xDFFF → busWrite a v s = .ok { s with wram := Memory.write s.wram (n - 0xC000) v }) ∧
    (s.params.oamWindow = true → 0xFE00 ≤ n → n ≤ 0xFE9F →
      busWrite a v s = .ok { s with ppu := { s.ppu with oam := Memory.write s.ppu.oam (n - 0xFE00) v } }) ∧
    (n = 0xFF00 → busWrite a v s = .ok { s with ports := { s.ports with joypSel := v.extractLsb' 4 2 } }) ∧
    (n = 0xFF01 → busWrite a v s = .ok { s with ports := { s.ports with sb := v } }) ∧
    (n = 0xFF02 → busWrite a v s = .ok { s with ports := { s.ports with sc := v } }) ∧
    (n = 0xFF04 → busWrite a v s = .ok { s with timer := { s.timer with cnt := 0 } }) ∧
    (n = 0xFF05 → busWrite a v s = .ok { s with timer := { s.timer with tima := v } }) ∧
    (n = 0xFF06 → busWrite a v s = .ok { s with timer := { s.timer with tma := v } }) ∧
    (n = 0xFF07 → busWrite a v s = .ok { s with timer := { s.timer with tac := v } }) ∧
    (n = 0xFF0F → busWrite a v s = .ok { s with irq := { s.irq with iflag := v } }) ∧
    (0xFF10 ≤ n → n ≤ 0xFF3F →
      ((a, v) ∉ s.params.soundRefused →
        busWrite a v s = .ok { s with ports := { s.ports with sound := Memory.write s.ports.sound (n - 0xFF10) v } }) ∧
      ((a, v) ∈ s.params.soundRefused → busWrite a v s = .error (.soundRejected .cpu a v s))) ∧
    (n = 0xFF40 → busWrite a v s = .ok { s with ppu := { s.ppu with lcdc := v } }) ∧
    (n = 0xFF41 → busWrite a v s = .ok { s with ppu := { s.ppu with statSel := v.extractLsb' 3 4 } }) ∧
    (n = 0xFF42 → busWrite a v s = .ok { s with ppu := { s.ppu with scy := v } }) ∧
    (n = 0xFF43 → busWrite a v s = .ok { s with ppu := { s.ppu with scx := v } }) ∧
    (n = 0xFF45 → busWrite a v s = .ok { s with ppu := { s.ppu with lyc := v } }) ∧
    (n = 0xFF47 → busWrite a v s = .ok { s with ppu := { s.ppu with bgp := v } }) ∧
    (n = 0xFF48 → busWrite a v s = .ok { s with ppu := { s.ppu with obp0 := v } }) ∧
    (n = 0xFF49 → busWrite a v s = .ok { s with ppu := { s.ppu with obp1 := v } }) ∧
    (n = 0xFF4A → busWrite a v s = .ok { s with ppu := { s.ppu with wy := v } }) ∧
    (n = 0xFF4B → busWrite a v s = .ok { s with ppu := { s.ppu with wx := v } }) ∧
    (n = 0xFF50 → busWrite a v s = .ok { s with overlay := false }) ∧
    (0xFF80 ≤ n → n ≤ 0xFFFE → busWrite a v s = .ok { s with hram := Memory.write s.hram (n - 0xFF80) v }) ∧
    (n = 0xFFFF → busWrite a v s = .ok { s with irq := { s.irq with ie := v } }) ∧
    (unmappedAddr s.params.oamWindow a → busWrite a v s = .error (.unmapped .cpu (.write a v) s))

/-- An access faults `Unmapped` at exactly the addresses of 20_memory.md R82's list, with reads of 0xFF50 among them, and, for writes,
at 0x4000–0x7FFF (R120) and 0xFF44 (60_exceptions.md R527). -/
def Obligations.UnmappedExactly : Prop :=
  ∀ (s : State) (a : Word) (v : Byte),
    (∀ g, (∃ x t, busRead g a s = .error (.unmapped g x t)) ↔ unmappedAddr s.params.oamWindow a ∨ a = 0xFF50) ∧
    ((∃ x t, busWrite a v s = .error (.unmapped .cpu x t)) ↔
      unmappedAddr s.params.oamWindow a ∨ (0x4000 ≤ a.toNat ∧ a.toNat ≤ 0x7FFF) ∨ a = 0xFF44)

/-- Video, work and high RAM are plain bytes (20_memory.md R90 to R92): a write succeeds in every state, the address reads back what
was written, and every other address reads as before. -/
def Obligations.RamReadsBack : Prop :=
  ∀ (s : State) (a : Word) (v : Byte), plainRam a →
    ∃ t, busWrite a v s = .ok t ∧ t.peek a = some v ∧ ∀ b, b ≠ a → t.peek b = s.peek b

/-! ### Rules about every step -/

/-- No step changes the ROM, the boot image, the battery RAM size or a parameter (10_state.md R46), and none sets the overlay bit
again (20_memory.md R89). -/
def Obligations.ConfigurationFixed : Prop :=
  ∀ s t : State, step s = .next t →
    t.cart.rom = s.cart.rom ∧ t.cart.romLen = s.cart.romLen ∧ t.params = s.params ∧ t.ramSize = s.ramSize ∧
    (t.overlay = true → s.overlay = true)

/-- Who changes IME and `halted` (10_state.md R40, R41): IME is set only by EI and RETI and cleared only by DI and dispatch; `halted`
is set only by HALT and cleared only by dispatch or, with `HALT_WAKES_WITHOUT_IME`, by a halted step. -/
def Obligations.ControlBits : Prop :=
  ∀ s t : State, step s = .next t →
    (s.cpu.ime = false → t.cpu.ime = true → ∃ i, fetch s = .ok i ∧ (i = .ei ∨ i = .reti)) ∧
    (s.cpu.ime = true → t.cpu.ime = false →
      (∃ src, pendingSource s.irq = some src) ∨ fetch s = .ok .di) ∧
    (s.cpu.halted = false → t.cpu.halted = true → fetch s = .ok .halt) ∧
    (s.cpu.halted = true → t.cpu.halted = false →
      (s.cpu.ime = true ∧ ∃ src, pendingSource s.irq = some src) ∨
      (s.params.haltWakes = true ∧ s.irq.ie &&& s.irq.iflag &&& 0x1F ≠ 0))

/-- The cycle count of a CPU step (60_exceptions.md R455): the dispatch cost, 4 for a halted step, else one of 4, 8, 12, 16, 20, 24. -/
def Obligations.CycleCounts : Prop :=
  ∀ s t : State, cpuStep s = .next t →
    (∀ src, s.cpu.ime = true → pendingSource s.irq = some src → t.cycles = s.params.irqCycles.count) ∧
    ((s.cpu.ime = true → pendingSource s.irq = none) → s.cpu.halted = true → t.cycles = 4) ∧
    t.cycles ∈ [4, 8, 12, 16, 20, 24]

/-! ### The timer -/

/-- One timer tick (60_exceptions.md R486, R487): the counter counts; enabled, at a multiple of the period, TIMA counts, or at 0xFF is
reloaded from TMA and IF bit 2 set in the same tick. -/
def Obligations.TimerTick : Prop :=
  ∀ s : State,
    let cnt := s.timer.cnt + 1
    (¬(s.timer.tac.getLsbD 2 = true ∧ cnt.toNat % timerPeriod s.timer.tac = 0) →
      timerTick s = { s with timer := { s.timer with cnt := cnt } }) ∧
    (s.timer.tac.getLsbD 2 = true → cnt.toNat % timerPeriod s.timer.tac = 0 →
      (s.timer.tima ≠ 0xFF → timerTick s = { s with timer := { s.timer with cnt := cnt, tima := s.timer.tima + 1 } }) ∧
      (s.timer.tima = 0xFF → timerTick s = { s with
        timer := { s.timer with cnt := cnt, tima := s.timer.tma }
        irq := { s.irq with iflag := s.irq.iflag ||| 0x04 } }))

/-- The timer's rate (60_exceptions.md R488): enabled, from a counter at a multiple of the period, TIMA stays for fewer ticks than the
period and is one higher after a period of them; DIV is one higher after 256 ticks. -/
def Obligations.TimerRate : Prop :=
  ∀ s : State,
    (s.timer.tac.getLsbD 2 = true → s.timer.cnt.toNat % timerPeriod s.timer.tac = 0 → s.timer.tima ≠ 0xFF →
      (∀ k, k < timerPeriod s.timer.tac → (timerTicks k s).timer.tima = s.timer.tima) ∧
      (timerTicks (timerPeriod s.timer.tac) s).timer.tima = s.timer.tima + 1) ∧
    (timerTicks 256 s).timer.cnt.extractLsb' 8 8 = s.timer.cnt.extractLsb' 8 8 + 1

/-! ### The PPU and OAM-DMA -/

/-- One PPU tick (60_exceptions.md R540, R541, R544, R545, R555): with the display off it changes nothing. With it on, it changes nothing
outside the PPU but IF bits 0 and 1, nothing of the PPU but OAM, the position, the line object list, the picture and the mirrors, and OAM
only while a transfer runs; the coincidence bit is LY == LYC afterwards; V-blank is requested on exactly the tick at which LY becomes
144; and the tick that leaves mode 2 at dot 80, and no other, makes the line object list the objects that overlap the line, with OAM as
the tick's own DMA step left it. -/
def Obligations.PpuTickEvents : Prop :=
  (∀ s : State, s.ppu.lcdc.getLsbD 7 = false → ppuTick s = .ok s) ∧
  (∀ s t : State, s.ppu.lcdc.getLsbD 7 = true → ppuTick s = .ok t →
    t = { s with
      irq := { s.irq with iflag := t.irq.iflag }
      ppu := { s.ppu with
        oam := t.ppu.oam, ly := t.ppu.ly, dot := t.ppu.dot, mode := t.ppu.mode, coincidence := t.ppu.coincidence,
        lineObjects := t.ppu.lineObjects, dmaState := t.ppu.dmaState, statLine := t.ppu.statLine, fb := t.ppu.fb } } ∧
    (∀ k, 2 ≤ k → t.irq.iflag.getLsbD k = s.irq.iflag.getLsbD k) ∧
    (s.ppu.dmaState = none → t.ppu.oam = s.ppu.oam ∧ t.ppu.dmaState = none) ∧
    t.ppu.coincidence = decide (t.ppu.ly = t.ppu.lyc) ∧
    t.irq.iflag.getLsbD 0 = (s.irq.iflag.getLsbD 0 || decide (s.ppu.ly ≠ 144 ∧ t.ppu.ly = 144)) ∧
    (s.ppu.mode = .oamScan → s.ppu.dot = 79 →
      t.ppu.mode = .transfer ∧
      t.ppu.lineObjects = (List.range 40).filter fun i =>
        let top := (Memory.read t.ppu.oam (4 * i)).toNat
        decide (top ≤ s.ppu.ly.toNat + 16) && decide (s.ppu.ly.toNat + 16 < top + if s.ppu.lcdc.getLsbD 2 then 16 else 8)) ∧
    (¬(s.ppu.mode = .oamScan ∧ s.ppu.dot = 79) → t.ppu.lineObjects = s.ppu.lineObjects))

/-- A line is 456 dots (60_exceptions.md R543, R542): from dot 0 with the display on, and no transfer running or one whose remaining source
bytes can be read, 456 PPU ticks increment LY exactly once (153 wraps to 0) and return the dot to 0, with the mode the position gives at
every dot of the line. -/
def Obligations.LineOfDots : Prop :=
  ∀ s : State, s.Timed → s.ppu.lcdc.getLsbD 7 = true → s.DmaReads → s.ppu.dot = 0 →
    (∀ k, k < 456 → ∃ t, ppuTicks k s = .ok t ∧ t.ppu.dot = k ∧ t.ppu.ly = s.ppu.ly ∧ t.ppu.mode = modeAt s.ppu.ly k) ∧
    ∃ t, ppuTicks 456 s = .ok t ∧ t.ppu.dot = 0 ∧ t.ppu.ly = (if s.ppu.ly = 153 then 0 else s.ppu.ly + 1) ∧
      t.ppu.mode = modeAt t.ppu.ly 0

/-- The LCD-STAT request (60_exceptions.md R556): never made when `STAT_IRQ` is false; when it is true, made by a tick on the rising edge
of the line that the select bits, the mode and the coincidence bit give, and the line remembered. -/
def Obligations.StatInterrupt : Prop :=
  (Params.default.statIrq = false ∧ State.reset.ppu.statLine = false) ∧
  ∀ s t : State, s.ppu.lcdc.getLsbD 7 = true → ppuTick s = .ok t →
    (s.params.statIrq = false → t.irq.iflag.getLsbD 1 = s.irq.iflag.getLsbD 1 ∧ t.ppu.statLine = s.ppu.statLine) ∧
    (s.params.statIrq = true →
      t.ppu.statLine = ((s.ppu.statSel.getLsbD 0 && decide (t.ppu.mode = .hblank)) ||
        (s.ppu.statSel.getLsbD 1 && decide (t.ppu.mode = .vblank)) ||
        (s.ppu.statSel.getLsbD 2 && decide (t.ppu.mode = .oamScan)) ||
        (s.ppu.statSel.getLsbD 3 && t.ppu.coincidence)) ∧
      t.irq.iflag.getLsbD 1 = (s.irq.iflag.getLsbD 1 || (t.ppu.statLine && !s.ppu.statLine)))

/-- The pixel of a tick (60_exceptions.md R550, R551, R553): in mode 3 at dot 80 + x, x below 160, pixel (x, LY) gets the background colour
of the tile map, tile data, scroll and palette as they are; every other pixel, and every pixel at any other tick, is unchanged. -/
def Obligations.PixelDrawn : Prop :=
  ∀ s t : State, s.Timed → s.ppu.lcdc.getLsbD 7 = true → ppuTick s = .ok t →
    let p := s.ppu
    let x := p.dot - 80
    let bgY := (p.ly.toNat + p.scy.toNat) % 256
    let bgX := (x + p.scx.toNat) % 256
    let map := if p.lcdc.getLsbD 3 then 0x1C00 else 0x1800
    let tile := Memory.read p.vram (map + bgY / 8 * 32 + bgX / 8)
    let base : Int := if p.lcdc.getLsbD 4 then tile.toNat * 16 else 0x1000 + tile.toInt * 16
    let lo := Memory.read p.vram (base.toNat + 2 * (bgY % 8))
    let hi := Memory.read p.vram (base.toNat + 2 * (bgY % 8) + 1)
    let idx := (if hi.getLsbD (7 - bgX % 8) then 2 else 0) + (if lo.getLsbD (7 - bgX % 8) then 1 else 0)
    (p.mode = .transfer → p.dot < 240 →
      (Memory.read t.ppu.fb (160 * p.ly.toNat + x)).toNat = (p.bgp.toNat >>> (2 * idx)) % 4 ∧
      ∀ k, k ≠ 160 * p.ly.toNat + x → Memory.read t.ppu.fb k = Memory.read p.fb k) ∧
    (¬(p.mode = .transfer ∧ p.dot < 240) → t.ppu.fb = p.fb)

/-- An OAM-DMA transfer (60_exceptions.md R561, R563): with the display on, from a source page at or below 0xDF whose 160 bytes can be
read, one byte is copied per PPU tick, and after 160 the engine is idle; where only the first j bytes can be read, j are copied and the
next tick faults. A DMA read that faults ends the tick, and the cycle, with that fault, which records the DMA engine as the agent (R460)
and leaves the state before the tick: battery RAM that is absent or disabled, and a ROM address past the image. -/
def Obligations.DmaCopies : Prop :=
  (∀ (s : State) (page : Byte) (src : Nat → Byte) (j : Nat), s.ppu.lcdc.getLsbD 7 = true → page.toNat ≤ 0xDF →
    s.ppu.dmaState = some { source := wordOf page 0, offset := 0 } → j ≤ 160 →
    (∀ k, k < j → s.peek (wordOf page 0 + BitVec.ofNat 16 k) = some (src k)) →
    ∃ t, ppuTicks j s = .ok t ∧
      t.ppu.dmaState = (if j = 160 then none else some { source := wordOf page 0, offset := j }) ∧
      (∀ k, k < 160 → Memory.read t.ppu.oam k = if k < j then src k else Memory.read s.ppu.oam k) ∧
      (j < 160 → s.peek (wordOf page 0 + BitVec.ofNat 16 j) = none →
        ∃ e, busRead .dma (wordOf page 0 + BitVec.ofNat 16 j) t = .error e ∧ ppuTicks (j + 1) s = .error e)) ∧
  (∀ (s : State) (x : DmaTransfer), s.ppu.lcdc.getLsbD 7 = true → s.ppu.dmaState = some x →
    let a := x.source + BitVec.ofNat 16 x.offset
    (∀ e, busRead .dma a s = .error e → ppuTick s = .error e ∧ cycleTick s = .error e ∧ e.left = s) ∧
    (0xA000 ≤ a.toNat → a.toNat < 0xC000 → s.ramSize = 0 ∨ s.cart.ramEnabled = false →
      ppuTick s = .error (.cartRam .dma (.read a) s)) ∧
    (a.toNat < 0x4000 → (s.overlay = true → 0x100 ≤ a.toNat) → s.cart.romLen ≤ a.toNat →
      ppuTick s = .error (.romBounds .dma a 0 s)) ∧
    (0x4000 ≤ a.toNat → a.toNat < 0x8000 → s.cart.romLen ≤ s.cart.bank.toNat * 0x4000 + (a.toNat - 0x4000) →
      ppuTick s = .error (.romBounds .dma a s.cart.bank s)))

/-- Writes of the DMA register and of LY (60_exceptions.md R560, R562, R564, R527): an idle engine starts a transfer from page v at or
below 0xDF, copying nothing yet; a write while one runs, a page above 0xDF and a write of LY fault, with the CPU as the agent (R460).
That a page above 0xDF while one runs, to which R562 and R564 both apply, is the fault of R562 is the model's choice (log 7). -/
def Obligations.DmaStart : Prop :=
  ∀ (s : State) (v : Byte),
    (s.ppu.dmaState = none → v.toNat ≤ 0xDF →
      busWrite 0xFF46 v s = .ok { s with ppu := { s.ppu with
        dma := v, dmaState := some { source := BitVec.ofNat 16 (v.toNat * 0x100), offset := 0 } } }) ∧
    (∀ x, s.ppu.dmaState = some x → busWrite 0xFF46 v s = .error (.dmaRetrigger .cpu v x.offset s)) ∧
    (s.ppu.dmaState = none → 0xDF < v.toNat → busWrite 0xFF46 v s = .error (.dmaSource .cpu v s)) ∧
    busWrite 0xFF44 v s = .error (.unmapped .cpu (.write 0xFF44 v) s)

/-! ### Invariants and reset -/

/-- Every step keeps the data invariant: F[3:0] zero, a bank of at least 1, LY at most 153, the dot below 456, a DMA state and line
objects in range, and every memory in canonical form and within its size. -/
def Obligations.StepKeepsInv : Prop :=
  ∀ s t : State, s.Inv → step s = .next t → t.Inv

/-- Every step keeps the timing invariant: the mode is the one the line and the dot give (60_exceptions.md R542). -/
def Obligations.StepKeepsTimed : Prop :=
  ∀ s t : State, s.Timed → step s = .next t → t.Timed

/-- The reset state meets both invariants. -/
def Obligations.ResetInv : Prop := State.reset.Inv ∧ State.reset.Timed

/-- Construction (70_reset_and_hazards.md R600 to R607, 20_memory.md R111, R113): the refusals, and, for any arguments not refused, the
power-on value of every state element: the CPU and the overlay bit (R601, R602), the device registers (R603), the memories and the picture
(R604), the cartridge (R605), the PPU's position (R606), the timer (R607), and the images and parameters of 00_scope.md R12. Which refusal
an image gets that fails several checks is the model's choice (log 21), as is that battery RAM is cut to RAM_SIZE (log 20). -/
def Obligations.Construction : Prop :=
  ∀ x : SessionArgs,
    (x.rom.length < 0x4000 → construct x = .error .romTooShort) ∧
    (0x4000 ≤ x.rom.length → 3 < (x.rom.getD 0x147 0).toNat →
      construct x = .error (.cartridgeType (x.rom.getD 0x147 0))) ∧
    (0x4000 ≤ x.rom.length → (x.rom.getD 0x147 0).toNat ≤ 3 → (x.rom.getD 0x149 0).toNat ∉ [0, 2, 3, 4, 5] →
      construct x = .error (.ramSizeCode (x.rom.getD 0x149 0))) ∧
    (0x4000 ≤ x.rom.length → (x.rom.getD 0x147 0).toNat ≤ 3 → (x.rom.getD 0x149 0).toNat ∈ [0, 2, 3, 4, 5] →
      ∃ s, construct x = .ok s ∧
        s.cpu = { a := x.regs.a, f := x.regs.f &&& 0xF0, b := x.regs.b, c := x.regs.c, d := x.regs.d, e := x.regs.e,
                  h := x.regs.h, l := x.regs.l, sp := x.regs.sp, pc := if x.boot.isSome then 0x0000 else 0x0100,
                  ime := false, halted := false } ∧
        s.overlay = x.boot.isSome ∧
        (s.cart.bank = 1 ∧ s.cart.ramEnabled = false ∧ s.cart.romLen = x.rom.length ∧
          (∀ k, k < x.rom.length → Memory.read s.cart.rom k = x.rom.getD k 0) ∧
          some s.ramSize = [(0, 0), (2, 0x2000), (3, 0x8000), (4, 0x20000), (5, 0x10000)].lookup (x.rom.getD 0x149 0).toNat ∧
          ∀ k, k < s.ramSize → Memory.read s.cart.ram k = x.mem.ram.getD k 0) ∧
        ((∀ k : Fin 0x2000, Memory.read s.wram k = x.mem.wram[k]) ∧ (∀ k : Fin 127, Memory.read s.hram k = x.mem.hram[k]) ∧
          (∀ k : Fin 0x2000, Memory.read s.ppu.vram k = x.mem.vram[k]) ∧
          ∀ k : Fin 160, Memory.read s.ppu.oam k = x.mem.oam[k]) ∧
        (s.ppu.dot = 0 ∧ s.ppu.mode = .oamScan ∧ s.ppu.ly = 0 ∧ s.ppu.coincidence = decide (s.ppu.ly = s.ppu.lyc) ∧
          s.ppu.lineObjects = [] ∧ s.ppu.dmaState = none ∧ s.ppu.statLine = false ∧ ∀ k, Memory.read s.ppu.fb k = 0) ∧
        (s.ppu.lcdc = x.dev.lcdc ∧ s.ppu.statSel = x.dev.statSel ∧ s.ppu.scy = x.dev.scy ∧ s.ppu.scx = x.dev.scx ∧
          s.ppu.lyc = x.dev.lyc ∧ s.ppu.dma = x.dev.dma ∧ s.ppu.bgp = x.dev.bgp ∧ s.ppu.obp0 = x.dev.obp0 ∧
          s.ppu.obp1 = x.dev.obp1 ∧ s.ppu.wy = x.dev.wy ∧ s.ppu.wx = x.dev.wx) ∧
        (s.timer.cnt = 0 ∧ s.timer.tima = x.dev.tima ∧ s.timer.tma = x.dev.tma ∧ s.timer.tac = x.dev.tac) ∧
        s.irq = { ie := x.dev.ie, iflag := x.dev.iflag } ∧
        (s.ports.joypSel = x.dev.joypSel ∧ s.ports.sb = x.dev.sb ∧ s.ports.sc = x.dev.sc ∧
          ∀ k : Fin 48, Memory.read s.ports.sound k = x.dev.sound[k]) ∧
        (s.params.irqCycles = x.params.irqCycles ∧ s.params.haltWakes = x.params.haltWakes ∧
          s.params.oamWindow = x.params.oamWindow ∧ s.params.statIrq = x.params.statIrq ∧
          s.params.soundRefused = x.params.soundRefused ∧
          ∀ v, x.boot = some v → ∀ k : Fin 256, Memory.read s.params.boot k = v[k]))

/-- The save-state install (60_exceptions.md R583): refused when the LY byte is above 153; else video RAM, OAM and the register window
are as given, the DMA value starts no transfer, dot and mode keep their values, and nothing else changes. That IME, halted and the
coincidence bit keep theirs, and which CPU registers are given, is the model's choice (log 9). -/
def Obligations.SaveStateInstall : Prop :=
  ∀ (x : SaveState) (s : State),
    (153 < (x.window[4]).toNat → install x s = none) ∧
    ((x.window[4]).toNat ≤ 153 → ∃ t, install x s = some t ∧
      (∀ k : Fin 0x2000, Memory.read t.ppu.vram k = x.vram[k]) ∧ (∀ k : Fin 160, Memory.read t.ppu.oam k = x.oam[k]) ∧
      t.ppu.lcdc = x.window[0] ∧ t.ppu.statSel = (x.window[1]).extractLsb' 3 4 ∧ t.ppu.scy = x.window[2] ∧
      t.ppu.scx = x.window[3] ∧ t.ppu.ly = x.window[4] ∧ t.ppu.lyc = x.window[5] ∧ t.ppu.dma = x.window[6] ∧
      t.ppu.bgp = x.window[7] ∧ t.ppu.obp0 = x.window[8] ∧ t.ppu.obp1 = x.window[9] ∧ t.ppu.wy = x.window[10] ∧
      t.ppu.wx = x.window[11] ∧ t.ppu.dot = s.ppu.dot ∧ t.ppu.mode = s.ppu.mode ∧ t.ppu.dmaState = s.ppu.dmaState ∧
      t.ppu.coincidence = s.ppu.coincidence ∧ t.ppu.lineObjects = s.ppu.lineObjects ∧
      t.ppu.statLine = s.ppu.statLine ∧ t.ppu.fb = s.ppu.fb ∧
      t.cpu = { a := x.regs.a, f := x.regs.f &&& 0xF0, b := x.regs.b, c := x.regs.c, d := x.regs.d, e := x.regs.e,
                h := x.regs.h, l := x.regs.l, sp := x.regs.sp, pc := x.pc, ime := s.cpu.ime, halted := s.cpu.halted } ∧
      t.wram = s.wram ∧ t.hram = s.hram ∧ t.cart = s.cart ∧ t.irq = s.irq ∧ t.timer = s.timer ∧ t.ports = s.ports ∧
      t.overlay = s.overlay ∧ t.params = s.params ∧ t.cycles = s.cycles)
end

