-- ==== Sys2Proof/Laws/Mem.lean ====
section
/-! SUPPORT. The laws of one memory: read after write, writes elsewhere, and the canonical form. -/

namespace Sys2Proof.Machine

section
variable {w : Nat}

@[simp] theorem Memory.read_nil (k : Nat) : Memory.read ([] : Memory w) k = 0 := rfl

@[simp] theorem Memory.read_erase_self (m : Memory w) (k : Nat) : Memory.read (Memory.erase m k) k = 0 := by
  induction m with
  | nil => rfl
  | cons c m ih =>
    obtain ⟨k', v⟩ := c
    by_cases h : k' = k
    · simpa [Memory.erase, h] using ih
    · simpa [Memory.erase, Memory.read, h] using ih

theorem Memory.read_erase_other (m : Memory w) {k k' : Nat} (h : k' ≠ k) :
    Memory.read (Memory.erase m k) k' = Memory.read m k' := by
  induction m with
  | nil => rfl
  | cons c m ih =>
    obtain ⟨a, v⟩ := c
    by_cases h1 : a = k
    · subst h1
      simpa [Memory.erase, Memory.read, Ne.symm h] using ih
    · by_cases h2 : a = k' <;> simp [Memory.erase, Memory.read, h1, h2, ih, h]

theorem Memory.read_insert_self (m : Memory w) (k : Nat) (v : BitVec w) (h : ∀ c ∈ m, c.1 ≠ k) :
    Memory.read (Memory.insert m k v) k = v := by
  induction m with
  | nil => simp [Memory.insert, Memory.read]
  | cons c m ih =>
    obtain ⟨a, x⟩ := c
    have ha : a ≠ k := h (a, x) (by simp)
    by_cases h1 : k < a
    · simp [Memory.insert, Memory.read, h1]
    · simpa [Memory.insert, Memory.read, h1, ha] using ih fun c hc => h c (by simp [hc])

theorem Memory.read_insert_other (m : Memory w) {k k' : Nat} (v : BitVec w) (h : k' ≠ k) :
    Memory.read (Memory.insert m k v) k' = Memory.read m k' := by
  induction m with
  | nil => simp [Memory.insert, Memory.read, Ne.symm h]
  | cons c m ih =>
    obtain ⟨a, x⟩ := c
    by_cases h1 : k < a
    · simp [Memory.insert, Memory.read, h1, Ne.symm h]
    · rw [Memory.insert, if_neg h1]
      by_cases h2 : a = k' <;> simp [Memory.read, h2, ih]

theorem Memory.erase_ne (m : Memory w) (k : Nat) : ∀ c ∈ Memory.erase m k, c.1 ≠ k := by
  induction m with
  | nil => simp [Memory.erase]
  | cons c m ih =>
    obtain ⟨a, x⟩ := c
    by_cases h : a = k
    · simpa [Memory.erase, h] using ih
    · simpa [Memory.erase, h] using ih

/-- A read of the offset just written gives the value written. -/
@[simp] theorem Memory.read_write_self (m : Memory w) (k : Nat) (v : BitVec w) :
    Memory.read (Memory.write m k v) k = v := by
  unfold Memory.write
  split
  · simp_all
  · exact Memory.read_insert_self _ _ _ (Memory.erase_ne m k)

/-- A write leaves every other offset as it was. -/
theorem Memory.read_write_other (m : Memory w) {k k' : Nat} (v : BitVec w) (h : k' ≠ k) :
    Memory.read (Memory.write m k v) k' = Memory.read m k' := by
  unfold Memory.write
  split
  · exact Memory.read_erase_other m h
  · rw [Memory.read_insert_other _ _ h, Memory.read_erase_other m h]

/-- What a read gives after a write, as one equation. -/
theorem Memory.read_write (m : Memory w) (k k' : Nat) (v : BitVec w) :
    Memory.read (Memory.write m k v) k' = if k' = k then v else Memory.read m k' := by
  split
  · subst_vars; simp
  · exact Memory.read_write_other m v ‹_›

@[simp] theorem Memory.wf_nil (size : Nat) : Memory.wf ([] : Memory w) size = true := rfl

theorem Memory.wfFrom_mono (m : Memory w) {low low' size : Nat} (h : low' ≤ low) (hm : Memory.wfFrom m low size = true) :
    Memory.wfFrom m low' size = true := by
  cases m with
  | nil => rfl
  | cons c m =>
    obtain ⟨a, x⟩ := c
    simp only [Memory.wfFrom, Bool.and_eq_true, decide_eq_true_eq] at hm ⊢
    exact ⟨⟨⟨by omega, hm.1.1.2⟩, hm.1.2⟩, hm.2⟩

theorem Memory.wfFrom_erase (m : Memory w) (k : Nat) {low size : Nat} (hm : Memory.wfFrom m low size = true) :
    Memory.wfFrom (Memory.erase m k) low size = true := by
  induction m generalizing low with
  | nil => rfl
  | cons c m ih =>
    obtain ⟨a, x⟩ := c
    simp only [Memory.wfFrom, Bool.and_eq_true, decide_eq_true_eq] at hm
    by_cases h : a = k
    · simpa [Memory.erase, h] using Memory.wfFrom_mono _ (by omega) (ih hm.2)
    · simp only [Memory.erase, h, if_false, Memory.wfFrom, Bool.and_eq_true, decide_eq_true_eq]
      exact ⟨hm.1, ih hm.2⟩

theorem Memory.wfFrom_insert (m : Memory w) (k : Nat) (v : BitVec w) {low size : Nat} (hk : low ≤ k) (hs : k < size)
    (hv : v ≠ 0) (hne : ∀ c ∈ m, c.1 ≠ k) (hm : Memory.wfFrom m low size = true) :
    Memory.wfFrom (Memory.insert m k v) low size = true := by
  induction m generalizing low with
  | nil =>
    simp only [Memory.insert, Memory.wfFrom, Bool.and_eq_true, decide_eq_true_eq, and_true]
    exact ⟨⟨hk, hs⟩, hv⟩
  | cons c m ih =>
    obtain ⟨a, x⟩ := c
    simp only [Memory.wfFrom, Bool.and_eq_true, decide_eq_true_eq] at hm
    have ha : a ≠ k := hne (a, x) (by simp)
    by_cases h : k < a
    · simp only [Memory.insert, h, if_true, Memory.wfFrom, Bool.and_eq_true, decide_eq_true_eq]
      exact ⟨⟨⟨hk, hs⟩, hv⟩, ⟨⟨by omega, hm.1.1.2⟩, hm.1.2⟩, hm.2⟩
    · simp only [Memory.insert, h, if_false, Memory.wfFrom, Bool.and_eq_true, decide_eq_true_eq]
      exact ⟨hm.1, ih (by omega) (fun c hc => hne c (by simp [hc])) hm.2⟩

/-- A write inside a memory keeps its canonical form. -/
theorem Memory.wf_write (m : Memory w) {k size : Nat} (v : BitVec w) (hk : k < size) (hm : Memory.wf m size = true) :
    Memory.wf (Memory.write m k v) size = true := by
  unfold Memory.write Memory.wf at *
  split
  · exact Memory.wfFrom_erase m k hm
  · exact Memory.wfFrom_insert _ k v (Nat.zero_le k) hk ‹_› (Memory.erase_ne m k) (Memory.wfFrom_erase m k hm)

theorem Memory.read_below {m : Memory w} {low size k : Nat} (hm : Memory.wfFrom m low size = true) (h : k < low) :
    Memory.read m k = 0 := by
  induction m generalizing low with
  | nil => rfl
  | cons c m ih =>
    obtain ⟨a, x⟩ := c
    simp only [Memory.wfFrom, Bool.and_eq_true, decide_eq_true_eq] at hm
    simpa [Memory.read, show a ≠ k by omega] using ih hm.2 (by omega)

theorem Memory.eq_of_reads {m m' : Memory w} {low size size' : Nat} (hm : Memory.wfFrom m low size = true)
    (hm' : Memory.wfFrom m' low size' = true) (h : ∀ k, Memory.read m k = Memory.read m' k) : m = m' := by
  induction m generalizing m' low with
  | nil =>
    cases m' with
    | nil => rfl
    | cons c m' =>
      obtain ⟨a, x⟩ := c
      simp only [Memory.wfFrom, Bool.and_eq_true, decide_eq_true_eq] at hm'
      exact absurd (by simpa [Memory.read] using (h a).symm) hm'.1.2
  | cons c m ih =>
    obtain ⟨a, x⟩ := c
    simp only [Memory.wfFrom, Bool.and_eq_true, decide_eq_true_eq] at hm
    cases m' with
    | nil => exact absurd (by simpa [Memory.read] using h a) hm.1.2
    | cons c' m' =>
      obtain ⟨b, y⟩ := c'
      simp only [Memory.wfFrom, Bool.and_eq_true, decide_eq_true_eq] at hm'
      have hab : a = b := by
        rcases Nat.lt_trichotomy a b with hlt | heq | hgt
        · have := h a
          rw [show Memory.read ((b, y) :: m') a = Memory.read m' a by simp [Memory.read, show b ≠ a by omega],
            Memory.read_below hm'.2 (by omega)] at this
          exact absurd (by simpa [Memory.read] using this) hm.1.2
        · exact heq
        · have := h b
          rw [show Memory.read ((a, x) :: m) b = Memory.read m b by simp [Memory.read, show a ≠ b by omega],
            Memory.read_below hm.2 (by omega)] at this
          exact absurd (by simpa [Memory.read] using this.symm) hm'.1.2
      subst hab
      have hxy : x = y := by simpa [Memory.read] using h a
      subst hxy
      rw [ih hm.2 hm'.2 fun k => ?_]
      by_cases hk : a = k
      · subst hk
        rw [Memory.read_below hm.2 (by omega), Memory.read_below hm'.2 (by omega)]
      · simpa [Memory.read, hk] using h k

/-- Two canonical memories that read the same are the same data. -/
theorem Memory.ext_of_wf {m m' : Memory w} {size size' : Nat} (hm : Memory.wf m size = true)
    (hm' : Memory.wf m' size' = true) (h : ∀ k, Memory.read m k = Memory.read m' k) : m = m' :=
  Memory.eq_of_reads hm hm' h

end

theorem Memory.wfFrom_ofBytesFrom (vs : List Byte) (k : Nat) :
    Memory.wfFrom (Memory.ofBytesFrom k vs) k (k + vs.length) = true := by
  induction vs generalizing k with
  | nil => rfl
  | cons v vs ih =>
    have h := ih (k + 1)
    rw [show k + 1 + vs.length = k + (v :: vs).length by simp; omega] at h
    unfold Memory.ofBytesFrom
    split
    · exact Memory.wfFrom_mono _ (by omega) h
    · simp only [Memory.wfFrom, Bool.and_eq_true, decide_eq_true_eq]
      exact ⟨⟨⟨Nat.le_refl k, by simp⟩, ‹_›⟩, h⟩

/-- The memory of a byte list is canonical. -/
theorem Memory.wf_ofBytes (vs : List Byte) : Memory.wf (Memory.ofBytes vs) vs.length = true := by
  simpa [Memory.wf, Memory.ofBytes] using Memory.wfFrom_ofBytesFrom vs 0

theorem Memory.ofBytesFrom_replicate_zero (n k : Nat) : Memory.ofBytesFrom k (List.replicate n 0) = [] := by
  induction n generalizing k with
  | zero => rfl
  | succ n ih => rw [List.replicate_succ, Memory.ofBytesFrom, if_pos rfl, ih]

/-- The memory of a list of zero bytes lists nothing. -/
@[simp] theorem Memory.ofBytes_replicate_zero (n : Nat) : Memory.ofBytes (List.replicate n 0) = [] :=
  Memory.ofBytesFrom_replicate_zero n 0

theorem Memory.read_ofBytesFrom (vs : List Byte) (k j : Nat) :
    Memory.read (Memory.ofBytesFrom k vs) j = if k ≤ j then vs.getD (j - k) 0 else 0 := by
  induction vs generalizing k with
  | nil => simp [Memory.ofBytesFrom]
  | cons v vs ih =>
    unfold Memory.ofBytesFrom
    by_cases hv : v = 0
    · rw [if_pos hv, ih]
      by_cases h1 : k + 1 ≤ j
      · rw [if_pos h1, if_pos (by omega), show j - k = (j - (k + 1)) + 1 by omega, List.getD_cons_succ]
      · rw [if_neg h1]
        by_cases h2 : k ≤ j
        · rw [if_pos h2, show j - k = 0 by omega, List.getD_cons_zero, hv]
        · rw [if_neg h2]
    · rw [if_neg hv]
      unfold Memory.read
      by_cases h2 : k = j
      · rw [if_pos h2, if_pos (by omega), show j - k = 0 by omega, List.getD_cons_zero]
      · rw [if_neg h2, ih]
        by_cases h1 : k + 1 ≤ j
        · rw [if_pos h1, if_pos (by omega), show j - k = (j - (k + 1)) + 1 by omega, List.getD_cons_succ]
        · rw [if_neg h1, if_neg (by omega)]

/-- The memory of a byte list reads as the list. -/
theorem Memory.read_ofBytes (vs : List Byte) (j : Nat) : Memory.read (Memory.ofBytes vs) j = vs.getD j 0 := by
  simpa [Memory.ofBytes] using Memory.read_ofBytesFrom vs 0 j

end Sys2Proof.Machine
end

