-- ==== Sys2Proof/Laws/Bus.lean ====
section
/-! SUPPORT. The bus: which addresses select which target, what a read depends on, and what a write can change. -/

namespace Sys2Proof.Machine

/-- The addresses that select a target (20_memory.md R80, R81). -/
def TargetAt (overlay oamWindow : Bool) (n : Nat) : Target → Prop
  | .boot off => overlay = true ∧ off = n ∧ n < 0x100
  | .rom off => off = n ∧ n < 0x4000 ∧ (overlay = true → 0x100 ≤ n)
  | .romBank off => off = n - 0x4000 ∧ 0x4000 ≤ n ∧ n < 0x8000
  | .vram off => off = n - 0x8000 ∧ 0x8000 ≤ n ∧ n < 0xA000
  | .cartRam off => off = n - 0xA000 ∧ 0xA000 ≤ n ∧ n < 0xC000
  | .wram off => off = n - 0xC000 ∧ 0xC000 ≤ n ∧ n < 0xE000
  | .oam off => oamWindow = true ∧ off = n - 0xFE00 ∧ 0xFE00 ≤ n ∧ n < 0xFEA0
  | .joyp => n = 0xFF00
  | .serialData => n = 0xFF01
  | .serialControl => n = 0xFF02
  | .div => n = 0xFF04
  | .tima => n = 0xFF05
  | .tma => n = 0xFF06
  | .tac => n = 0xFF07
  | .iflag => n = 0xFF0F
  | .sound off => off = n - 0xFF10 ∧ 0xFF10 ≤ n ∧ n < 0xFF40
  | .ppu r => r = ppuRegAt (n - 0xFF40) ∧ 0xFF40 ≤ n ∧ n < 0xFF4C
  | .bootOff => n = 0xFF50
  | .hram off => off = n - 0xFF80 ∧ 0xFF80 ≤ n ∧ n < 0xFFFF
  | .ie => n = 0xFFFF
  | .unmapped => (0xE000 ≤ n ∧ n < 0xFE00) ∨ (0xFE00 ≤ n ∧ n < 0xFEA0 ∧ oamWindow = false) ∨ (0xFEA0 ≤ n ∧ n < 0xFF00) ∨
      n = 0xFF03 ∨ (0xFF08 ≤ n ∧ n < 0xFF0F) ∨ (0xFF4C ≤ n ∧ n < 0xFF50) ∨ (0xFF51 ≤ n ∧ n < 0xFF80)

/-- Every address selects a target whose addresses it is among. -/
theorem busTarget_spec (o w : Bool) (a : Word) : TargetAt o w a.toNat (busTarget o w a) := by
  have h16 := a.isLt
  unfold busTarget
  generalize a.toNat = n at *
  refine iteInduction (fun h => ⟨h.1, rfl, h.2⟩) fun hb => ?_
  have hb : o = true → 0x100 ≤ n := fun ho => Nat.le_of_not_lt fun hn => hb ⟨ho, hn⟩
  refine iteInduction (fun h => ⟨rfl, h, hb⟩) fun _ => ?_
  clear hb
  repeat' refine iteInduction (fun _ => ?_) fun _ => ?_
  all_goals simp only [TargetAt, true_and]
  all_goals first
    | omega
    | exact ⟨by assumption, by omega, by omega⟩
    | (simp only [Bool.not_eq_true] at *; simp [*]; omega)

theorem State.target_spec (s : State) (a : Word) : TargetAt s.overlay s.params.oamWindow a.toNat (s.target a) :=
  busTarget_spec _ _ _

/-! ### Reads -/

theorem State.peek_eq_some {s : State} {a : Word} {v : Byte} : s.peek a = some v ↔ busRead .cpu a s = .ok v := by
  unfold State.peek; cases busRead .cpu a s <;> simp

/-- The two agents read the same byte (60_exceptions.md R563). -/
theorem busRead_agent {g : Agent} {a : Word} {s : State} {v : Byte} : busRead g a s = .ok v ↔ s.peek a = some v := by
  rw [State.peek_eq_some]
  unfold busRead
  cases s.target a <;> simp only [reduceCtorEq] <;> split <;> simp

/-- What a CPU read of a target gives, if it gives a byte. -/
def State.peekAt (s : State) : Target → Option Byte
  | .boot off => some (Memory.read s.params.boot off)
  | .rom off => if off < s.cart.romLen then some (Memory.read s.cart.rom off) else none
  | .romBank off =>
    if romOffset s.cart off < s.cart.romLen then some (Memory.read s.cart.rom (romOffset s.cart off)) else none
  | .vram off => some (Memory.read s.ppu.vram off)
  | .cartRam off => if s.ramOpen then some (Memory.read s.cart.ram off) else none
  | .wram off => some (Memory.read s.wram off)
  | .oam off => some (Memory.read s.ppu.oam off)
  | .joyp => some (Config.joypRead s.ports.joypSel)
  | .serialData => some s.ports.sb
  | .serialControl => some s.ports.sc
  | .div => some (hiByte s.timer.cnt)
  | .tima => some s.timer.tima
  | .tma => some s.timer.tma
  | .tac => some s.timer.tac
  | .iflag => some s.irq.iflag
  | .sound off => some (Memory.read s.ports.sound off)
  | .ppu r => some (readPpu s.ppu r)
  | .bootOff => none
  | .hram off => some (Memory.read s.hram off)
  | .ie => some s.irq.ie
  | .unmapped => none

theorem State.peek_def (s : State) (a : Word) : s.peek a = s.peekAt (s.target a) := by
  unfold State.peek busRead State.peekAt
  cases s.target a <;> first | rfl | (dsimp only; split_ifs <;> rfl)

/-- A read depends on no CPU register and not on the model's cycle count. -/
theorem State.peek_cpu (s : State) (c : Cpu) (n : Nat) (a : Word) :
    State.peek { s with cpu := c, cycles := n } a = s.peek a := by
  simp only [State.peek_def]
  show State.peekAt _ (s.target a) = _
  cases s.target a <;> rfl

theorem SameOutsideCpu.peek {s t : State} (h : SameOutsideCpu s t) (a : Word) : t.peek a = s.peek a := by
  rw [h, State.peek_cpu]

/-! ### Writes -/

/-- What a bus write leaves unchanged whatever its address: the CPU registers, the ROM and the parameters (10_state.md R46), the
model's cycle count, the picture and the PPU's position; and it never sets the overlay bit (20_memory.md R89). -/
theorem busWrite_frame {a : Word} {v : Byte} {s t : State} (h : busWrite a v s = .ok t) :
    t.cpu = s.cpu ∧ t.params = s.params ∧ t.cycles = s.cycles ∧ t.cart.rom = s.cart.rom ∧ t.cart.romLen = s.cart.romLen ∧
      (t.overlay = true → s.overlay = true) ∧ t.ppu.fb = s.ppu.fb ∧ t.ppu.dot = s.ppu.dot ∧ t.ppu.mode = s.ppu.mode ∧
      t.ppu.ly = s.ppu.ly ∧ t.ppu.coincidence = s.ppu.coincidence ∧ t.ppu.lineObjects = s.ppu.lineObjects ∧
      t.ppu.statLine = s.ppu.statLine := by
  unfold busWrite at h
  cases ht : s.target a <;> simp only [ht] at h
  case ppu r =>
    unfold writePpu writeDma at h
    cases r <;> dsimp only at h <;> (try split at h) <;> (try split at h) <;> cases h <;> simp
  all_goals (try unfold writeCartControl at h) <;> (try split at h) <;> cases h <;> (try split) <;> simp

/-- A fault of a bus read leaves the state the read was made in (60_exceptions.md R463). -/
theorem busRead_left {g : Agent} {a : Word} {s : State} {e : Fault} (h : busRead g a s = .error e) : e.left = s := by
  unfold busRead at h
  generalize s.target a = x at h
  cases x <;> dsimp only at h <;> (try split at h) <;> cases h <;> rfl

/-- A fault of a bus write leaves the state the write was made in (60_exceptions.md R463). -/
theorem busWrite_left {a : Word} {v : Byte} {s : State} {e : Fault} (h : busWrite a v s = .error e) : e.left = s := by
  unfold busWrite at h
  generalize s.target a = x at h
  cases x <;> dsimp only at h
  case ppu r =>
    unfold writePpu writeDma at h
    cases r <;> dsimp only at h <;>
      first | (cases h; rfl) | (split at h <;> first | (cases h; rfl) | (split at h <;> cases h; rfl)) | cases h
  all_goals first | (cases h; rfl) | (split at h <;> cases h; rfl) | cases h

/-- A bus write neither reads nor writes the CPU registers. -/
theorem busWrite_cpu {a : Word} {v : Byte} {s t : State} (h : busWrite a v s = .ok t) (c : Cpu) (n : Nat) :
    busWrite a v { s with cpu := c, cycles := n } = .ok { t with cpu := c, cycles := n } := by
  unfold busWrite at *
  rw [show State.target { s with cpu := c, cycles := n } a = s.target a from rfl]
  generalize s.target a = x at *
  cases x <;> dsimp only at h ⊢
  case ppu r =>
    unfold writePpu writeDma at *
    cases r <;> dsimp only at h ⊢
    case ly => cases h
    case dma =>
      split at h
      · cases h
      · split at h
        · cases h; rename_i hv; simp only [hv, if_true]
        · cases h
    all_goals cases h; rfl
  case cartRam =>
    rw [show State.ramOpen { s with cpu := c, cycles := n } = s.ramOpen from rfl]
    split at h
    · cases h; rw [if_pos ‹_›]
    · cases h
  case sound =>
    split at h
    · cases h
    · cases h; rw [if_neg ‹_›]
  all_goals cases h <;> rfl

/-- Battery RAM is absent or at least as large as its window (20_memory.md R113). -/
theorem State.ramSize_cases (s : State) : s.ramSize = 0 ∨ 0x2000 ≤ s.ramSize := by
  unfold State.ramSize ramSizeOf
  split <;> simp

/-- A bus write keeps the data invariant. -/
theorem busWrite_inv {a : Word} {v : Byte} {s t : State} (hi : s.Inv) (h : busWrite a v s = .ok t) : t.Inv := by
  have hs := s.target_spec a
  unfold busWrite at h
  cases ht : s.target a <;> simp only [ht, TargetAt] at h hs
  case ppu r =>
    unfold writePpu writeDma at h
    cases r
    case dma =>
      dsimp only at h
      split at h
      · cases h
      · split at h
        · cases h
          refine { hi with dma := ?_ }
          intro x hx
          cases hx
          exact ⟨Nat.zero_lt_succ _, by rw [wordOf_toNat]; simp; omega, by rw [wordOf_toNat]; simp⟩
        · cases h
    all_goals cases h <;> exact { hi with }
  case boot | rom =>
    cases h
    unfold writeCartControl
    split
    · exact { hi with }
    · refine { hi with bank := ?_ }
      dsimp only
      split
      · decide
      · assumption
  case wram => cases h; exact { hi with wram := Memory.wf_write _ _ (by omega) hi.wram }
  case hram => cases h; exact { hi with hram := Memory.wf_write _ _ (by omega) hi.hram }
  case vram => cases h; exact { hi with vram := Memory.wf_write _ _ (by omega) hi.vram }
  case oam => cases h; exact { hi with oam := Memory.wf_write _ _ (by omega) hi.oam }
  case sound =>
    split at h
    · cases h
    · cases h; exact { hi with sound := Memory.wf_write _ _ (by omega) hi.sound }
  case cartRam off =>
    split at h
    · cases h
      rename_i hr
      have := s.ramSize_cases
      have : 0 < s.ramSize := by simp only [State.ramOpen, Bool.and_eq_true, decide_eq_true_eq] at hr; exact hr.1
      have hw : Memory.wf (Memory.write s.cart.ram off v) s.ramSize = true :=
        Memory.wf_write _ v (by omega) hi.cartRam
      exact { hi with cartRam := hw }
    · cases h
  all_goals cases h
  all_goals exact { hi with }

/-- The offset of a PPU register from 0xFF40. -/
def PpuReg.index : PpuReg → Nat
  | .lcdc => 0
  | .stat => 1
  | .scy => 2
  | .scx => 3
  | .ly => 4
  | .lyc => 5
  | .dma => 6
  | .bgp => 7
  | .obp0 => 8
  | .obp1 => 9
  | .wy => 10
  | .wx => 11

theorem index_ppuRegAt {k : Nat} (h : k < 12) : (ppuRegAt k).index = k := by
  revert k; decide

/-- A bus write changes the reading of no address that it does not touch. -/
theorem busWrite_peek_other {a b : Word} {v : Byte} {s t : State} (h : busWrite a v s = .ok t) (hb : touches a b = false) :
    t.peek b = s.peek b := by
  have hs := s.target_spec a
  have hs' := s.target_spec b
  have hab : b.toNat ≠ a.toNat := by
    intro hn
    simp [touches, BitVec.eq_of_toNat_eq hn] at hb
  have hov : s.target b = t.target b → s.peekAt (s.target b) = t.peekAt (s.target b) → t.peek b = s.peek b := by
    intro h1 h2; rw [State.peek_def, State.peek_def, ← h1, h2]
  simp only [touches, Bool.or_eq_false_iff, Bool.and_eq_false_iff, decide_eq_false_iff_not] at hb
  unfold busWrite at h
  cases ht : s.target a <;> simp only [ht, TargetAt] at h hs
  case ppu r =>
    obtain ⟨hr, hs⟩ := hs
    unfold writePpu writeDma at h
    cases r <;> dsimp only at h <;> (try split at h) <;> (try split at h) <;> cases h <;>
      refine hov rfl ?_ <;> cases htb : s.target b <;> simp only [htb, TargetAt] at hs' <;> try rfl
    all_goals
      rename_i r'
      have h1 := congrArg PpuReg.index hr
      have h2 := congrArg PpuReg.index hs'.1
      rw [index_ppuRegAt (by omega)] at h1 h2
      cases r' <;> first
        | rfl
        | (simp only [PpuReg.index] at h1 h2; omega)
  case boot off | rom off =>
    cases h
    by_cases ho : off < 0x2000
    · refine hov rfl ?_
      simp only [writeCartControl, if_pos ho]
      cases htb : s.target b <;> simp only [htb, TargetAt] at hs' <;> first
        | omega
        | rfl
    · refine hov rfl ?_
      simp only [writeCartControl, if_neg ho]
      cases htb : s.target b <;> simp only [htb, TargetAt] at hs' <;> first
        | omega
        | rfl
  case bootOff =>
    cases h
    have hn : ¬b.toNat < 0x100 := by
      have : a = 0xFF50 := BitVec.eq_of_toNat_eq hs
      simp_all
    have hn' : ∀ o : Bool, ¬((o = true) ∧ b.toNat < 0x100) := fun o ho => hn ho.2
    have htb : s.target b = State.target { s with overlay := false } b := by
      unfold State.target busTarget
      dsimp only
      rw [if_neg (hn' _), if_neg (hn' _)]
    refine hov htb ?_
    cases s.target b <;> rfl
  all_goals
    first
    | cases h
    | (split at h <;> cases h)
  all_goals
    refine hov rfl ?_
    cases htb : s.target b <;> simp only [htb, TargetAt] at hs' <;> first
      | rfl
      | (simp only [State.peekAt]; rw [Memory.read_write_other]; omega)
      | omega
      | exact ite_congr rfl (fun _ => congrArg some (Memory.read_write_other _ _ (by omega)).symm) fun _ => rfl

/-- A byte written to video, work or high RAM is there to read (20_memory.md R90 to R92). -/
theorem busWrite_ram {a : Word} (v : Byte) (s : State)
    (ha : (0x8000 ≤ a.toNat ∧ a.toNat < 0xA000) ∨ (0xC000 ≤ a.toNat ∧ a.toNat < 0xE000) ∨
      (0xFF80 ≤ a.toNat ∧ a.toNat < 0xFFFF)) :
    ∃ t, busWrite a v s = .ok t ∧ t.peek a = some v := by
  have hs := s.target_spec a
  cases ht : s.target a <;> simp only [ht, TargetAt] at hs
  case vram off =>
    refine ⟨_, by unfold busWrite; rw [ht], ?_⟩
    rw [State.peek_def]
    show State.peekAt _ (s.target a) = _
    rw [ht]
    exact congrArg some (Memory.read_write_self _ _ _)
  case wram off =>
    refine ⟨_, by unfold busWrite; rw [ht], ?_⟩
    rw [State.peek_def]
    show State.peekAt _ (s.target a) = _
    rw [ht]
    exact congrArg some (Memory.read_write_self _ _ _)
  case hram off =>
    refine ⟨_, by unfold busWrite; rw [ht], ?_⟩
    rw [State.peek_def]
    show State.peekAt _ (s.target a) = _
    rw [ht]
    exact congrArg some (Memory.read_write_self _ _ _)
  all_goals omega

end Sys2Proof.Machine
end

