-- ==== Sys2Proof/Laws/Devices.lean ====
section
/-! SUPPORT. What the ticks of the timer and the PPU can change, and that they keep the invariants. -/

namespace Sys2Proof.Machine

/-- The parts of the state no tick changes: the CPU, the RAMs of the bus, the cartridge, the ports, the parameters, the overlay
bit, IE and the model's cycle count. -/
def SameOutsideDevices (s t : State) : Prop :=
  t.cpu = s.cpu ∧ t.overlay = s.overlay ∧ t.wram = s.wram ∧ t.hram = s.hram ∧ t.cart = s.cart ∧ t.ports = s.ports ∧
    t.params = s.params ∧ t.irq.ie = s.irq.ie ∧ t.cycles = s.cycles

theorem SameOutsideDevices.refl (s : State) : SameOutsideDevices s s := ⟨rfl, rfl, rfl, rfl, rfl, rfl, rfl, rfl, rfl⟩

theorem SameOutsideDevices.trans {s t u : State} (h : SameOutsideDevices s t) (h' : SameOutsideDevices t u) :
    SameOutsideDevices s u := by
  obtain ⟨a1, a2, a3, a4, a5, a6, a7, a8, a9⟩ := h
  obtain ⟨b1, b2, b3, b4, b5, b6, b7, b8, b9⟩ := h'
  exact ⟨b1.trans a1, b2.trans a2, b3.trans a3, b4.trans a4, b5.trans a5, b6.trans a6, b7.trans a7, b8.trans a8, b9.trans a9⟩

@[simp] theorem requestIrq_ppu (src : IrqSource) (s : State) : (requestIrq src s).ppu = s.ppu := rfl
@[simp] theorem requestIrq_timer (src : IrqSource) (s : State) : (requestIrq src s).timer = s.timer := rfl
@[simp] theorem requestIrq_params (src : IrqSource) (s : State) : (requestIrq src s).params = s.params := rfl
@[simp] theorem requestIrq_iflag (src : IrqSource) (s : State) :
    (requestIrq src s).irq.iflag = s.irq.iflag ||| src.mask := rfl

theorem requestIrq_inv {src : IrqSource} {s : State} (hi : s.Inv) : (requestIrq src s).Inv := { hi with }

/-! ### The timer -/

/-- A timer tick counts the counter (60_exceptions.md R486). -/
@[simp] theorem timerTick_cnt (s : State) : (timerTick s).timer.cnt = s.timer.cnt + 1 := by
  unfold timerTick; dsimp only; split <;> (try split) <;> rfl

@[simp] theorem timerTick_ppu (s : State) : (timerTick s).ppu = s.ppu := by
  unfold timerTick; dsimp only; split <;> (try split) <;> rfl

@[simp] theorem timerTick_tac (s : State) : (timerTick s).timer.tac = s.timer.tac := by
  unfold timerTick; dsimp only; split <;> (try split) <;> rfl

@[simp] theorem timerTick_tma (s : State) : (timerTick s).timer.tma = s.timer.tma := by
  unfold timerTick; dsimp only; split <;> (try split) <;> rfl

theorem timerTick_frame (s : State) : SameOutsideDevices s (timerTick s) := by
  unfold timerTick; dsimp only; split <;> (try split) <;> exact SameOutsideDevices.refl _

theorem timerTick_inv {s : State} (hi : s.Inv) : (timerTick s).Inv := by
  unfold timerTick; dsimp only; split <;> (try split) <;> exact { hi with }

/-! ### The PPU -/

/-- One DMA step changes OAM and the DMA sub-state alone (60_exceptions.md R561). -/
theorem dmaStep_ok {s t : State} (h : dmaStep s = .ok t) :
    (s.ppu.dmaState = none ∧ t = s) ∨
    ∃ x v, s.ppu.dmaState = some x ∧ s.peek (x.source + BitVec.ofNat 16 x.offset) = some v ∧
      t = { s with ppu := { s.ppu with
        oam := Memory.write s.ppu.oam x.offset v
        dmaState := if x.offset = 159 then none else some { x with offset := x.offset + 1 } } } := by
  unfold dmaStep at h
  split at h
  · cases h; exact .inl ⟨‹_›, rfl⟩
  · split at h
    · cases h
    · cases h; exact .inr ⟨_, _, ‹_›, busRead_agent.mp ‹_›, rfl⟩

theorem dmaStep_frame {s t : State} (h : dmaStep s = .ok t) : SameOutsideDevices s t ∧ t.timer = s.timer ∧ t.irq = s.irq := by
  obtain ⟨-, rfl⟩ | ⟨x, v, -, -, rfl⟩ := dmaStep_ok h
  · exact ⟨SameOutsideDevices.refl _, rfl, rfl⟩
  · exact ⟨SameOutsideDevices.refl _, rfl, rfl⟩

theorem dmaStep_inv {s t : State} (hi : s.Inv) (h : dmaStep s = .ok t) : t.Inv := by
  obtain ⟨-, rfl⟩ | ⟨x, v, hx, -, rfl⟩ := dmaStep_ok h
  · exact hi
  · have hd := hi.dma x hx
    refine { hi with oam := Memory.wf_write _ _ hd.1 hi.oam, dma := ?_ }
    intro y hy
    dsimp only at hy
    split at hy
    · cases hy
    · cases hy; exact ⟨by dsimp only; omega, hd.2⟩

/-- The rest of a tick changes the PPU and IF alone. -/
theorem scanStep_frame (s : State) : SameOutsideDevices s (scanStep s) ∧ (scanStep s).timer = s.timer := by
  unfold scanStep statLineStep
  dsimp only
  split <;> (try split) <;> (try split) <;> exact ⟨SameOutsideDevices.refl _, rfl⟩

theorem ppuTick_frame {s t : State} (h : ppuTick s = .ok t) : SameOutsideDevices s t ∧ t.timer = s.timer := by
  unfold ppuTick at h
  split at h
  · split at h
    · cases h
    · cases h
      obtain ⟨h1, h2, -⟩ := dmaStep_frame ‹_›
      obtain ⟨h3, h4⟩ := scanStep_frame _
      exact ⟨h1.trans h3, h4.trans h2⟩
  · cases h; exact ⟨SameOutsideDevices.refl _, rfl⟩

/-- A PPU tick with the display off changes nothing (60_exceptions.md R540); with it on it makes its DMA step and goes on. -/
theorem ppuTick_ok {s t : State} (h : ppuTick s = .ok t) :
    (s.ppu.lcdc.getLsbD 7 = false ∧ t = s) ∨
    (s.ppu.lcdc.getLsbD 7 = true ∧ ∃ u, dmaStep s = .ok u ∧ t = scanStep u) := by
  unfold ppuTick at h
  split at h
  · split at h
    · cases h
    · cases h; exact .inr ⟨‹_›, _, ‹_›, rfl⟩
  · cases h; exact .inl ⟨by simp_all, rfl⟩

/-- The PPU after the rest of a tick. -/
theorem scanStep_ppu (s : State) :
    (scanStep s).ppu = { advanceDot (drawStep s.ppu) with
      coincidence := decide ((advanceDot (drawStep s.ppu)).ly = (advanceDot (drawStep s.ppu)).lyc)
      statLine := (scanStep s).ppu.statLine } := by
  unfold scanStep statLineStep
  dsimp only
  split <;> (try split) <;> (try split) <;> rfl

@[simp] theorem drawStep_pos (p : Ppu) : (drawStep p).ly = p.ly ∧ (drawStep p).lyc = p.lyc ∧ (drawStep p).dot = p.dot ∧
    (drawStep p).mode = p.mode ∧ (drawStep p).lcdc = p.lcdc ∧ (drawStep p).dmaState = p.dmaState ∧
    (drawStep p).vram = p.vram ∧ (drawStep p).oam = p.oam ∧ (drawStep p).lineObjects = p.lineObjects := by
  unfold drawStep; split <;> exact ⟨rfl, rfl, rfl, rfl, rfl, rfl, rfl, rfl, rfl⟩

/-- The end of a line: dot 0 and the next line, line 0 after line 153 (60_exceptions.md R543). -/
theorem lineEnd_pos (p : Ppu) : (lineEnd p).dot = 0 ∧ (lineEnd p).ly = if p.ly + 1 = 154 then 0 else p.ly + 1 := by
  unfold lineEnd
  dsimp only
  split
  · rename_i h; rw [h]; exact ⟨rfl, rfl⟩
  · split
    · exact ⟨rfl, rfl⟩
    · split <;> exact ⟨rfl, rfl⟩

/-- What a tick's dot, mode and line step leaves unchanged. -/
theorem advanceDot_frame (p : Ppu) : (advanceDot p).vram = p.vram ∧ (advanceDot p).oam = p.oam ∧ (advanceDot p).fb = p.fb ∧
    (advanceDot p).dmaState = p.dmaState ∧ (advanceDot p).lyc = p.lyc ∧ (advanceDot p).lcdc = p.lcdc := by
  unfold advanceDot lineEnd
  dsimp only
  split_ifs <;> exact ⟨rfl, rfl, rfl, rfl, rfl, rfl⟩

theorem line_succ_le {y : Byte} (h : y.toNat ≤ 153) : (if y + 1 = 154 then (0 : Byte) else y + 1).toNat ≤ 153 := by
  split
  · decide
  · bv_omega

/-- The line and the dot stay in range (60_exceptions.md R500). -/
theorem advanceDot_range {p : Ppu} (hl : p.ly.toNat ≤ 153) (hd : p.dot < 456) :
    (advanceDot p).ly.toNat ≤ 153 ∧ (advanceDot p).dot < 456 := by
  unfold advanceDot
  dsimp only
  split
  · exact ⟨hl, by dsimp only; omega⟩
  · split
    · exact ⟨hl, by dsimp only; omega⟩
    · split
      · have h := lineEnd_pos p
        exact ⟨by rw [h.2]; exact line_succ_le hl, by rw [h.1]; omega⟩
      · exact ⟨hl, by dsimp only; omega⟩

/-- The line object list stays a list of OAM indices (60_exceptions.md R555). -/
theorem advanceDot_objects {p : Ppu} (ho : ∀ i ∈ p.lineObjects, i < 40) : ∀ i ∈ (advanceDot p).lineObjects, i < 40 := by
  unfold advanceDot
  dsimp only
  split
  · intro i hi
    exact List.mem_range.mp (List.mem_filter.mp hi).1
  · split
    · exact ho
    · split
      · have : (lineEnd p).lineObjects = p.lineObjects := by unfold lineEnd; dsimp only; split_ifs <;> rfl
        rw [this]; exact ho
      · exact ho

/-- The rest of a tick keeps the data invariant. -/
theorem scanStep_inv {s : State} (hi : s.Inv) : (scanStep s).Inv := by
  obtain ⟨⟨h1, h2, h3, h4, h5, h6, h7, -, -⟩, -⟩ := scanStep_frame s
  have hp := scanStep_ppu s
  obtain ⟨d1, -, d3, -, -, d6, d7, d8, d9⟩ := drawStep_pos s.ppu
  obtain ⟨a1, a2, a3, a4, -, -⟩ := advanceDot_frame (drawStep s.ppu)
  obtain ⟨r1, r2⟩ := advanceDot_range (p := drawStep s.ppu) (by rw [d1]; exact hi.line) (by rw [d3]; exact hi.dot)
  have r3 := advanceDot_objects (p := drawStep s.ppu) (by rw [d9]; exact hi.objects)
  have hfb : Memory.wf (drawStep s.ppu).fb (160 * 144) = true := by
    unfold drawStep
    split
    · exact Memory.wf_write _ _ (by omega) hi.framebuffer
    · exact hi.framebuffer
  have hr : (scanStep s).ramSize = s.ramSize := by unfold State.ramSize; rw [h5]
  constructor
  · rw [h1]; exact hi.flags
  · rw [h5]; exact hi.bank
  · rw [hp]; exact r1
  · rw [hp]; exact r2
  · rw [hp]; dsimp only; rw [a4, d6]; exact hi.dma
  · rw [hp]; exact r3
  · rw [h3]; exact hi.wram
  · rw [h4]; exact hi.hram
  · rw [hp]; dsimp only; rw [a1, d7]; exact hi.vram
  · rw [hp]; dsimp only; rw [a2, d8]; exact hi.oam
  · rw [h5, hr]; exact hi.cartRam
  · rw [h5]; exact hi.rom
  · rw [h7]; exact hi.boot
  · rw [h6]; exact hi.sound
  · rw [hp]; dsimp only; rw [a3]; exact hfb

theorem ppuTick_inv {s t : State} (hi : s.Inv) (h : ppuTick s = .ok t) : t.Inv := by
  obtain ⟨-, rfl⟩ | ⟨-, u, hu, rfl⟩ := ppuTick_ok h
  · exact hi
  · exact scanStep_inv (dmaStep_inv hi hu)

/-- The mode stays the one the position gives (60_exceptions.md R542). -/
theorem advanceDot_timed {p : Ppu} (hl : p.ly.toNat ≤ 153) (hd : p.dot < 456) (hm : p.mode = modeAt p.ly p.dot) :
    (advanceDot p).mode = modeAt (advanceDot p).ly (advanceDot p).dot := by
  have h144 : (144 : Byte).toNat = 144 := rfl
  have h154 : (154 : Byte).toNat = 154 := rfl
  have hs : (p.ly + 1).toNat = p.ly.toNat + 1 := by bv_omega
  have hend : p.dot + 1 = 456 → (lineEnd p).mode = modeAt (lineEnd p).ly (lineEnd p).dot := by
    intro h456
    unfold lineEnd
    dsimp only
    split
    · rename_i h; rw [h]; rfl
    · rename_i hn
      have hn : p.ly.toNat + 1 ≠ 144 := fun h => hn (BitVec.eq_of_toNat_eq (hs.trans h))
      split
      · rfl
      · split
        · rename_i h
          simp only [modeAt]
          rw [if_neg (by omega), if_pos (by omega)]
        · simp only [modeAt] at hm ⊢
          rw [hm, if_pos (by omega), if_pos (by omega)]
  unfold advanceDot
  dsimp only
  split
  · rename_i h
    rw [h.1] at hm
    simp only [modeAt] at hm ⊢
    split_ifs at hm
    rw [if_neg (by assumption), if_neg (by omega), if_pos (by omega)]
  · rename_i h1
    split
    · rename_i h
      rw [h.1] at hm
      simp only [modeAt] at hm ⊢
      split_ifs at hm
      rw [if_neg (by assumption), if_neg (by omega), if_neg (by omega)]
    · rename_i h2
      split
      · exact hend ‹_›
      · dsimp only
        simp only [modeAt] at hm ⊢
        rw [hm] at h1 h2 ⊢
        split_ifs at h1 h2 ⊢ <;> first
          | rfl
          | omega
          | (simp only [true_and] at h1 h2; omega)

/-- A PPU tick keeps the timing invariant. -/
theorem ppuTick_timed {s t : State} (hi : s.Timed) (h : ppuTick s = .ok t) : t.Timed := by
  obtain ⟨-, rfl⟩ | ⟨-, u, hu, rfl⟩ := ppuTick_ok h
  · exact hi
  · have hu' : u.ppu.ly = s.ppu.ly ∧ u.ppu.dot = s.ppu.dot ∧ u.ppu.mode = s.ppu.mode := by
      obtain ⟨-, rfl⟩ | ⟨x, v, -, -, rfl⟩ := dmaStep_ok hu <;> exact ⟨rfl, rfl, rfl⟩
    obtain ⟨d1, -, d3, d4, -⟩ := drawStep_pos u.ppu
    have hl : (drawStep u.ppu).ly.toNat ≤ 153 := by rw [d1, hu'.1]; exact hi.line
    have hd : (drawStep u.ppu).dot < 456 := by rw [d3, hu'.2.1]; exact hi.dot
    have hm : (drawStep u.ppu).mode = modeAt (drawStep u.ppu).ly (drawStep u.ppu).dot := by
      rw [d1, d3, d4, hu'.1, hu'.2.1, hu'.2.2]; exact hi.mode
    have hp := scanStep_ppu u
    constructor
    · rw [hp]; exact (advanceDot_range hl hd).1
    · rw [hp]; exact (advanceDot_range hl hd).2
    · rw [hp]; exact advanceDot_timed hl hd hm

/-! ### What a tick changes, and the DMA engine's reads -/

theorem drawStep_eq (p : Ppu) : drawStep p = { p with fb := (drawStep p).fb } := by
  unfold drawStep; split <;> rfl

theorem advanceDot_eq (p : Ppu) : advanceDot p = { p with
    ly := (advanceDot p).ly, dot := (advanceDot p).dot, mode := (advanceDot p).mode
    lineObjects := (advanceDot p).lineObjects } := by
  unfold advanceDot lineEnd
  dsimp only
  split_ifs <;> rfl

/-- The rest of a tick changes the PPU and IF alone. -/
theorem scanStep_irq (s : State) : scanStep s = { s with
    irq := { s.irq with iflag := (scanStep s).irq.iflag }, ppu := (scanStep s).ppu } := by
  unfold scanStep statLineStep
  dsimp only
  split <;> (try split) <;> (try split) <;> rfl

/-- Everything the rest of a tick can change: IF, and of the PPU the position, the mirrors, the line objects and the picture
(60_exceptions.md R541). -/
theorem scanStep_eq (s : State) : scanStep s = { s with
    irq := { s.irq with iflag := (scanStep s).irq.iflag }
    ppu := { s.ppu with
      ly := (scanStep s).ppu.ly, dot := (scanStep s).ppu.dot, mode := (scanStep s).ppu.mode
      coincidence := (scanStep s).ppu.coincidence, lineObjects := (scanStep s).ppu.lineObjects
      statLine := (scanStep s).ppu.statLine, fb := (scanStep s).ppu.fb } } := by
  have h : (scanStep s).ppu = { s.ppu with
      ly := (scanStep s).ppu.ly, dot := (scanStep s).ppu.dot, mode := (scanStep s).ppu.mode
      coincidence := (scanStep s).ppu.coincidence, lineObjects := (scanStep s).ppu.lineObjects
      statLine := (scanStep s).ppu.statLine, fb := (scanStep s).ppu.fb } := by
    generalize hq : scanStep s = q
    have hp := scanStep_ppu s
    rw [hq, advanceDot_eq, drawStep_eq] at hp
    rw [hp]
  exact (scanStep_irq s).trans (by rw [← h])

/-- A read by the DMA engine that faults is the fault of the tick, the display on (60_exceptions.md R563). -/
theorem ppuTick_dma_error {s : State} {x : DmaTransfer} {e : Fault} (hl : s.ppu.lcdc.getLsbD 7 = true)
    (hx : s.ppu.dmaState = some x) (h : busRead .dma (x.source + BitVec.ofNat 16 x.offset) s = .error e) :
    ppuTick s = .error e := by
  unfold ppuTick dmaStep
  rw [if_pos hl, hx]
  dsimp only
  rw [h]

/-- Whether an address can be read does not depend on what a tick changes. -/
theorem SameOutsideDevices.readable {s t : State} (h : SameOutsideDevices s t) (a : Word) :
    (∃ v, t.peek a = some v) ↔ ∃ v, s.peek a = some v := by
  obtain ⟨-, h2, -, -, h5, -, h7, -⟩ := h
  have ht : t.target a = s.target a := by unfold State.target; rw [h2, h7]
  have hr : t.ramOpen = s.ramOpen := by unfold State.ramOpen State.ramSize; rw [h5]
  rw [State.peek_def, State.peek_def, ht]
  unfold State.peekAt
  rw [hr, h5]
  cases s.target a <;> dsimp only <;> (try split) <;> simp

/-- With the rest of its transfer readable, a tick answers a next state, and the rest of the transfer stays readable. -/
theorem ppuTick_reads {s : State} (hr : s.DmaReads) : ∃ t, ppuTick s = .ok t ∧ t.DmaReads := by
  by_cases hl : s.ppu.lcdc.getLsbD 7 = true
  · cases hx : s.ppu.dmaState with
    | none =>
      have hd : dmaStep s = .ok s := by unfold dmaStep; rw [hx]
      refine ⟨scanStep s, by unfold ppuTick; rw [if_pos hl, hd], fun y hy => ?_⟩
      rw [scanStep_eq] at hy
      exact nomatch hx.symm.trans hy
    | some x =>
      obtain ⟨ho, hk⟩ := hr x hx
      obtain ⟨v, hv⟩ := hk x.offset (Nat.le_refl _) ho
      have hd : ∃ u, dmaStep s = .ok u := by unfold dmaStep; rw [hx]; dsimp only; rw [busRead_agent.mpr hv]; exact ⟨_, rfl⟩
      obtain ⟨u, hu⟩ := hd
      have hp : ppuTick s = .ok (scanStep u) := by unfold ppuTick; rw [if_pos hl, hu]
      refine ⟨_, hp, fun y hy => ?_⟩
      obtain ⟨h, -⟩ | ⟨x', w, h, -, rfl⟩ := dmaStep_ok hu
      · exact nomatch hx.symm.trans h
      · cases hx.symm.trans h
        rw [scanStep_eq] at hy
        dsimp only at hy
        split at hy
        · cases hy
        · cases hy
          exact ⟨by dsimp only; omega, fun k h1 h2 =>
            ((ppuTick_frame hp).1.readable _).mpr (hk k (by dsimp only at h1; omega) h2)⟩
  · refine ⟨s, ?_, hr⟩
    unfold ppuTick
    rw [if_neg hl]

/-- PPU ticks one after the other add up. -/
theorem ppuTicks_add {j : Nat} {s t : State} (k : Nat) (h : ppuTicks j s = .ok t) : ppuTicks (j + k) s = ppuTicks k t := by
  induction j generalizing s with
  | zero => cases h; rw [Nat.zero_add]
  | succ j ih =>
    rw [Nat.succ_add]
    simp only [ppuTicks] at h ⊢
    split at h
    · cases h
    · exact ih h

/-! ### One cycle and several -/

theorem cycleTick_ok {s t : State} (h : cycleTick s = .ok t) : ∃ u, ppuTick s = .ok u ∧ t = timerTick u := by
  unfold cycleTick at h
  split at h
  · cases h
  · cases h; exact ⟨_, ‹_›, rfl⟩

theorem cycleTick_frame {s t : State} (h : cycleTick s = .ok t) : SameOutsideDevices s t := by
  obtain ⟨u, hu, rfl⟩ := cycleTick_ok h
  exact (ppuTick_frame hu).1.trans (timerTick_frame u)

theorem cycleTick_timed {s t : State} (hi : s.Timed) (h : cycleTick s = .ok t) : t.Timed := by
  obtain ⟨u, hu, rfl⟩ := cycleTick_ok h
  have := ppuTick_timed hi hu
  exact ⟨by rw [timerTick_ppu]; exact this.line, by rw [timerTick_ppu]; exact this.dot, by rw [timerTick_ppu]; exact this.mode⟩

theorem cycleTick_inv {s t : State} (hi : s.Inv) (h : cycleTick s = .ok t) : t.Inv := by
  obtain ⟨u, hu, rfl⟩ := cycleTick_ok h
  exact timerTick_inv (ppuTick_inv hi hu)

/-- A property that every cycle keeps, several cycles keep. -/
theorem ticks_keep {P : State → Prop} (hP : ∀ s t, P s → cycleTick s = .ok t → P t) {n : Nat} {s t : State} (h : P s)
    (ht : ticks n s = .ok t) : P t := by
  induction n generalizing s with
  | zero => cases ht; exact h
  | succ n ih =>
    unfold ticks at ht
    split at ht
    · cases ht
    · exact ih (hP _ _ h ‹_›) ht

theorem ticks_frame {n : Nat} {s t : State} (h : ticks n s = .ok t) : SameOutsideDevices s t :=
  ticks_keep (P := SameOutsideDevices s) (fun _ _ hs hc => hs.trans (cycleTick_frame hc)) (SameOutsideDevices.refl s) h

theorem ticks_timed {n : Nat} {s t : State} (hi : s.Timed) (h : ticks n s = .ok t) : t.Timed :=
  ticks_keep (fun _ _ => cycleTick_timed) hi h

theorem ticks_inv {n : Nat} {s t : State} (hi : s.Inv) (h : ticks n s = .ok t) : t.Inv :=
  ticks_keep (fun _ _ => cycleTick_inv) hi h

end Sys2Proof.Machine
end

