-- ==== Sys2Proof/Laws/Ops.lean ====
section
/-! SUPPORT. What each shared operation can do: `…_ok` gives its result where its accesses succeed, `…_next` what must have been so
where it answers a next state. -/

namespace Sys2Proof.Machine

theorem finish_next {n : Nat} {s t : State} (h : finish n s = .next t) : t = { s with cycles := n } := by
  unfold finish at h; cases h; rfl

/-! ### Memory accesses -/

theorem loadThen_ok {a : Word} {s : State} {v : Byte} (h : s.peek a = some v) (k : Byte → Exec) : loadThen a s k = k v := by
  rw [State.peek_eq_some] at h; simp only [loadThen, h]

theorem loadThen_next {a : Word} {s t : State} {k : Byte → Exec} (h : loadThen a s k = .next t) :
    ∃ v, s.peek a = some v ∧ k v = .next t := by
  unfold loadThen at h
  split at h
  · exact ⟨_, State.peek_eq_some.mpr ‹_›, h⟩
  · cases h

theorem loadThen_fault {a : Word} {s : State} {f : Fault} (h : busRead .cpu a s = .error f) (k : Byte → Exec) :
    loadThen a s k = .fault f := by
  simp only [loadThen, h]

theorem storeThen_ok {a : Word} {v : Byte} {s t : State} (h : busWrite a v s = .ok t) (k : State → Exec) :
    storeThen a v s k = k t := by
  simp only [storeThen, h]

theorem storeThen_next {a : Word} {v : Byte} {s t : State} {k : State → Exec} (h : storeThen a v s k = .next t) :
    ∃ u, busWrite a v s = .ok u ∧ k u = .next t := by
  unfold storeThen at h
  split at h
  · exact ⟨_, ‹_›, h⟩
  · cases h

theorem storeThen_fault {a : Word} {v : Byte} {s : State} {f : Fault} (h : busWrite a v s = .error f) (k : State → Exec) :
    storeThen a v s k = .fault f := by
  simp only [storeThen, h]

theorem readOperand_ok {t : Operand8} {s : State} {v : Byte} (h : t.value s = some v) (k : Byte → Exec) :
    readOperand t s k = k v := by
  cases t with
  | reg r => cases h; rfl
  | mhl => exact loadThen_ok h k

theorem readOperand_next {t : Operand8} {s u : State} {k : Byte → Exec} (h : readOperand t s k = .next u) :
    ∃ v, t.value s = some v ∧ k v = .next u := by
  cases t with
  | reg r => exact ⟨_, rfl, h⟩
  | mhl => exact loadThen_next h

theorem writeOperand_next {t : Operand8} {v : Byte} {s u : State} {k : State → Exec} (h : writeOperand t v s k = .next u) :
    ∃ w, t.written v s = .ok w ∧ k w = .next u := by
  cases t with
  | reg r => exact ⟨_, rfl, h⟩
  | mhl => exact storeThen_next h

theorem writeOperand_ok {t : Operand8} {v : Byte} {s w : State} (h : t.written v s = .ok w) (k : State → Exec) :
    writeOperand t v s k = k w := by
  cases t with
  | reg r => cases h; rfl
  | mhl => exact storeThen_ok h k

theorem readAluSrc_ok {x : AluSrc} {s : State} {v : Byte} (h : x.value s = some v) (k : Byte → Exec) :
    readAluSrc x s k = k v := by
  cases x with
  | reg r => cases h; rfl
  | imm n => cases h; rfl
  | mhl => exact loadThen_ok h k

theorem readAluSrc_next {x : AluSrc} {s t : State} {k : Byte → Exec} (h : readAluSrc x s k = .next t) :
    ∃ v, x.value s = some v ∧ k v = .next t := by
  cases x with
  | reg r => exact ⟨_, rfl, h⟩
  | imm n => exact ⟨_, rfl, h⟩
  | mhl => exact loadThen_next h

/-! ### The stack -/

theorem pushThen_eq (v : Word) (s : State) (k : State → Exec) :
    pushThen v s k = match s.pushed v with
      | .ok t => k t
      | .error f => .fault f := by
  unfold pushThen storeThen State.pushed
  cases h : busWrite (s.cpu.sp - 1) (hiByte v) (s.setSp (s.cpu.sp - 1)) with
  | error f => rfl
  | ok t =>
    have hsp : t.cpu.sp - 1 = s.cpu.sp - 2 := by
      rw [(busWrite_frame h).1, State.setSp_sp]; bv_omega
    dsimp only
    exact hsp ▸ rfl

theorem pushThen_ok {v : Word} {s t : State} (h : s.pushed v = .ok t) (k : State → Exec) : pushThen v s k = k t := by
  rw [pushThen_eq, h]

theorem pushThen_next {v : Word} {s t : State} {k : State → Exec} (h : pushThen v s k = .next t) :
    ∃ u, s.pushed v = .ok u ∧ k u = .next t := by
  rw [pushThen_eq] at h
  split at h
  · exact ⟨_, ‹_›, h⟩
  · cases h

/-- The two writes of a push. -/
theorem State.pushed_ok {v : Word} {s u : State} (h : s.pushed v = .ok u) :
    ∃ t, busWrite (s.cpu.sp - 1) (hiByte v) (s.setSp (s.cpu.sp - 1)) = .ok t ∧
      busWrite (s.cpu.sp - 2) (loByte v) (t.setSp (s.cpu.sp - 2)) = .ok u := by
  unfold State.pushed at h
  split at h
  · exact ⟨_, ‹_›, h⟩
  · cases h

/-- A push changes no CPU register but SP, which ends 2 lower. -/
theorem State.pushed_cpu {v : Word} {s u : State} (h : s.pushed v = .ok u) :
    u.cpu = { s.cpu with sp := s.cpu.sp - 2 } ∧ u.params = s.params := by
  obtain ⟨t, ht, hu⟩ := State.pushed_ok h
  obtain ⟨ht, hp, -⟩ := busWrite_frame ht
  obtain ⟨hu, hq, -⟩ := busWrite_frame hu
  have hc : (t.setSp (s.cpu.sp - 2)).cpu = { t.cpu with sp := s.cpu.sp - 2 } := rfl
  exact ⟨by rw [hu, hc, ht]; rfl, hq.trans hp⟩

/-- A push changes the reading of no address that neither of its writes touches. -/
theorem State.pushed_peek {v : Word} {s u : State} {b : Word} (h : s.pushed v = .ok u)
    (h1 : touches (s.cpu.sp - 1) b = false) (h2 : touches (s.cpu.sp - 2) b = false) : u.peek b = s.peek b := by
  obtain ⟨t, ht, hu⟩ := State.pushed_ok h
  rw [busWrite_peek_other hu h2]
  exact (State.peek_cpu t _ t.cycles b).trans ((busWrite_peek_other ht h1).trans (State.peek_cpu s _ s.cycles b))

/-- A push keeps the data invariant. -/
theorem State.pushed_inv {v : Word} {s u : State} (hi : s.Inv) (h : s.pushed v = .ok u) : u.Inv := by
  obtain ⟨t, ht, hu⟩ := State.pushed_ok h
  have hs : (s.setSp (s.cpu.sp - 1)).Inv := { hi with }
  have hti := busWrite_inv hs ht
  have hts : (t.setSp (s.cpu.sp - 2)).Inv := { hti with }
  exact busWrite_inv hts hu

theorem State.popped_eq_some {s : State} {v : Word} :
    s.popped = some v ↔ ∃ lo hi, s.peek s.cpu.sp = some lo ∧ s.peek (s.cpu.sp + 1) = some hi ∧ v = wordOf hi lo := by
  unfold State.popped
  cases s.peek s.cpu.sp <;> cases s.peek (s.cpu.sp + 1) <;> simp [eq_comm]

theorem popThen_ok {s : State} {v : Word} (h : s.popped = some v) (k : Word → State → Exec) :
    popThen s k = k v (s.setSp (s.cpu.sp + 2)) := by
  obtain ⟨lo, hi, hl, hh, rfl⟩ := State.popped_eq_some.mp h
  unfold popThen
  rw [loadThen_ok hl]
  exact loadThen_ok ((State.peek_cpu s _ s.cycles _).trans hh) _

theorem popThen_next {s t : State} {k : Word → State → Exec} (h : popThen s k = .next t) :
    ∃ v, s.popped = some v ∧ k v (s.setSp (s.cpu.sp + 2)) = .next t := by
  unfold popThen at h
  obtain ⟨lo, hl, h⟩ := loadThen_next h
  obtain ⟨hi, hh, h⟩ := loadThen_next h
  exact ⟨_, State.popped_eq_some.mpr ⟨lo, hi, hl, (State.peek_cpu s _ s.cycles _).symm.trans hh, rfl⟩, h⟩

/-! ### Interrupts -/

/-- Interrupt dispatch where its push succeeds (60_exceptions.md R471). -/
theorem dispatchIrq_ok {src : IrqSource} {s t : State}
    (h : (clearRequest src ((s.setIme false).setHalted false)).pushed s.cpu.pc = .ok t) :
    dispatchIrq src s = .next { t.setPc src.vector with cycles := t.params.irqCycles.count } :=
  pushThen_ok h _

theorem dispatchIrq_next {src : IrqSource} {s u : State} (h : dispatchIrq src s = .next u) :
    ∃ t, (clearRequest src ((s.setIme false).setHalted false)).pushed s.cpu.pc = .ok t ∧
      u = { t.setPc src.vector with cycles := t.params.irqCycles.count } := by
  obtain ⟨t, ht, h⟩ := pushThen_next h
  exact ⟨t, ht, finish_next h⟩

/-- Return from an interrupt where its pop succeeds (46_control.md R399). -/
theorem returnFromIrq_ok {s : State} {v : Word} (h : s.popped = some v) :
    returnFromIrq s = .next { ((s.setSp (s.cpu.sp + 2)).setPc v).setIme true with cycles := 16 } :=
  popThen_ok h _

end Sys2Proof.Machine
end

