-- ==== Sys2Proof/Laws/Syntax.lean ====
section
/-! SUPPORT. Instructions and their forms: the two are inverse to each other, and an instruction's meaning is its form's, so that a
statement about every instruction is proved by the forms. -/

namespace Sys2Proof

@[simp] theorem Instr.instr_form (i : Instr) : i.form.instr = i := by cases i <;> rfl

@[simp] theorem Form.form_instr (f : Form) : f.instr.form = f := by
  cases f with
  | ldRegReg dst src => cases dst <;> cases src <;> rfl
  | ldRegImm dst n => cases dst <;> rfl
  | ldRegMHl dst => cases dst <;> rfl
  | ldMHlReg src => cases src <;> rfl
  | ldMHlImm n => rfl
  | ldAMPair p => cases p <;> rfl
  | ldMPairA p => cases p <;> rfl
  | ldAMImm16 nn => rfl
  | ldMImm16A nn => rfl
  | ldhAMN n => rfl
  | ldhMNA n => rfl
  | ldAMC => rfl
  | ldMCA => rfl
  | ldMHlIncA => rfl
  | ldMHlDecA => rfl
  | ldAMHlInc => rfl
  | ldAMHlDec => rfl
  | ldPairImm p nn => cases p <;> rfl
  | ldMImm16Sp nn => rfl
  | ldSpHl => rfl
  | push p => cases p <;> rfl
  | pop p => cases p <;> rfl
  | ldHlSpRel e => rfl
  | alu op src => cases op <;> rcases src with ⟨r⟩ | - | n <;> first | rfl | (cases r <;> rfl)
  | incReg r => cases r <;> rfl
  | incMHl => rfl
  | decReg r => cases r <;> rfl
  | decMHl => rfl
  | daa => rfl
  | cpl => rfl
  | scf => rfl
  | ccf => rfl
  | addHlPair p => cases p <;> rfl
  | incPair p => cases p <;> rfl
  | decPair p => cases p <;> rfl
  | addSpRel e => rfl
  | rlca => rfl
  | rrca => rfl
  | rla => rfl
  | rra => rfl
  | rot op t => cases op <;> rcases t with ⟨r⟩ | - <;> first | rfl | (cases r <;> rfl)
  | bit b t => cases b <;> rcases t with ⟨r⟩ | - <;> first | rfl | (cases r <;> rfl)
  | res b t => cases b <;> rcases t with ⟨r⟩ | - <;> first | rfl | (cases r <;> rfl)
  | set b t => cases b <;> rcases t with ⟨r⟩ | - <;> first | rfl | (cases r <;> rfl)
  | jp nn => rfl
  | jpCond cc nn => cases cc <;> rfl
  | jpHl => rfl
  | jr e => rfl
  | jrCond cc e => cases cc <;> rfl
  | call nn => rfl
  | callCond cc nn => cases cc <;> rfl
  | ret => rfl
  | retCond cc => cases cc <;> rfl
  | reti => rfl
  | rst t => cases t <;> rfl
  | nop => rfl
  | halt => rfl
  | stop n => rfl
  | di => rfl
  | ei => rfl
  | illegal g => cases g <;> rfl
  | prefixCb c => rfl

namespace Machine

/-- The meaning of a form. -/
def execForm : Form → State → Exec
  | .ldRegReg dst src, s => Machine.ldRegReg dst src s
  | .ldRegImm dst n, s => Machine.ldRegImm dst n s
  | .ldRegMHl dst, s => Machine.ldRegMHl dst s
  | .ldMHlReg src, s => Machine.ldMHlReg src s
  | .ldMHlImm n, s => Machine.ldMHlImm n s
  | .ldAMPair p, s => Machine.ldAMPair p s
  | .ldMPairA p, s => Machine.ldMPairA p s
  | .ldAMImm16 nn, s => Machine.ldAMImm16 nn s
  | .ldMImm16A nn, s => Machine.ldMImm16A nn s
  | .ldhAMN n, s => Machine.ldhAMN n s
  | .ldhMNA n, s => Machine.ldhMNA n s
  | .ldAMC, s => Machine.ldAMC s
  | .ldMCA, s => Machine.ldMCA s
  | .ldMHlIncA, s => Machine.ldMHlIncA s
  | .ldMHlDecA, s => Machine.ldMHlDecA s
  | .ldAMHlInc, s => Machine.ldAMHlInc s
  | .ldAMHlDec, s => Machine.ldAMHlDec s
  | .ldPairImm p nn, s => Machine.ldPairImm p nn s
  | .ldMImm16Sp nn, s => Machine.ldMImm16Sp nn s
  | .ldSpHl, s => Machine.ldSpHl s
  | .push p, s => Machine.push p s
  | .pop p, s => Machine.pop p s
  | .ldHlSpRel e, s => Machine.ldHlSpRel e s
  | .alu op src, s => Machine.alu op src s
  | .incReg r, s => Machine.incReg r s
  | .incMHl, s => Machine.incMHl s
  | .decReg r, s => Machine.decReg r s
  | .decMHl, s => Machine.decMHl s
  | .daa, s => Machine.daa s
  | .cpl, s => Machine.cpl s
  | .scf, s => Machine.scf s
  | .ccf, s => Machine.ccf s
  | .addHlPair p, s => Machine.addHlPair p s
  | .incPair p, s => Machine.incPair p s
  | .decPair p, s => Machine.decPair p s
  | .addSpRel e, s => Machine.addSpRel e s
  | .rlca, s => Machine.rlca s
  | .rrca, s => Machine.rrca s
  | .rla, s => Machine.rla s
  | .rra, s => Machine.rra s
  | .rot op t, s => Machine.rot op t s
  | .bit b t, s => Machine.bit b t s
  | .res b t, s => Machine.res b t s
  | .set b t, s => Machine.set b t s
  | .jp nn, s => Machine.jp nn s
  | .jpCond cc nn, s => Machine.jpCond cc nn s
  | .jpHl, s => Machine.jpHl s
  | .jr e, s => Machine.jr e s
  | .jrCond cc e, s => Machine.jrCond cc e s
  | .call nn, s => Machine.call nn s
  | .callCond cc nn, s => Machine.callCond cc nn s
  | .ret, s => Machine.ret s
  | .retCond cc, s => Machine.retCond cc s
  | .reti, s => Machine.reti s
  | .rst t, s => Machine.rst t s
  | .nop, s => Machine.nop s
  | .halt, s => Machine.halt s
  | .stop n, s => Machine.stop n s
  | .di, s => Machine.di s
  | .ei, s => Machine.ei s
  | .illegal g, s => Machine.illegal g s
  | .prefixCb c, s => Machine.prefixCb c s

/-- The meaning of an instruction is the meaning of its form. -/
theorem exec_eq (i : Instr) (s : State) : exec i s = execForm i.form s := by cases i <;> rfl

/-- The meaning of the instruction a form stands for. -/
theorem exec_instr (f : Form) (s : State) : exec f.instr s = execForm f s := by rw [exec_eq, Form.form_instr]

/-- The prefix row has the meaning of the CB row its second byte selects (30_encoding.md R163). -/
theorem prefixCb_eq (c : Byte) (s : State) : prefixCb c s = execForm (decodeCb c) s := by
  unfold prefixCb decodeCb
  generalize (fieldX c).toNat = x
  rcases x with _ | _ | _ | x <;> rfl

end Machine

end Sys2Proof
end

