-- ==== Sys2Proof/Laws/Exec.lean ====
section
/-! SUPPORT. What an instruction does outside the CPU registers, said once for every form: the bus writes at its store addresses,
in order, and nothing else. The frames, the invariants and the fixed state follow from it by induction on the addresses. -/

namespace Sys2Proof.Machine

theorem SameOutsideCpu.of_cpu (s : State) (c : Cpu) (n : Nat) : SameOutsideCpu s { s with cpu := c, cycles := n } := rfl

theorem SameOutsideCpu.refl (s : State) : SameOutsideCpu s s := rfl

theorem SameOutsideCpu.trans {s t u : State} (h : SameOutsideCpu s t) (h' : SameOutsideCpu t u) : SameOutsideCpu s u := by
  unfold SameOutsideCpu at *; rw [h', h]

/-- A state differs from another, outside the CPU registers, by bus writes at these addresses in this order. -/
def StoredAt : List Word → State → State → Prop
  | [], s, t => SameOutsideCpu s t
  | a :: as, s, t => ∃ u v w, SameOutsideCpu s u ∧ busWrite a v u = .ok w ∧ StoredAt as w t

theorem StoredAt.cpu {as : List Word} {s t u : State} (h : StoredAt as s t) (h' : SameOutsideCpu t u) : StoredAt as s u := by
  induction as generalizing s with
  | nil => exact SameOutsideCpu.trans h h'
  | cons a as ih =>
    obtain ⟨x, v, w, hx, hw, h⟩ := h
    exact ⟨x, v, w, hx, hw, ih h⟩

theorem StoredAt.one {a : Word} {v : Byte} {s t u : State} (h : busWrite a v s = .ok t) (h' : SameOutsideCpu t u) :
    StoredAt [a] s u := ⟨s, v, t, .refl s, h, h'⟩

/-- What is kept by changes of the CPU registers and by every bus write is kept by a form's stores. -/
theorem StoredAt.keep {P : State → Prop} (hc : ∀ s t, P s → SameOutsideCpu s t → P t)
    (hw : ∀ a v s t, P s → busWrite a v s = .ok t → P t) {as : List Word} {s t : State} (hs : P s) (h : StoredAt as s t) :
    P t := by
  induction as generalizing s with
  | nil => exact hc s t hs h
  | cons a as ih =>
    obtain ⟨x, v, w, hx, hw', h⟩ := h
    exact ih (hw a v x w (hc s x hs hx) hw') h

/-- A form's stores change the reading of no address that none of them touches. -/
theorem StoredAt.peek {as : List Word} {s t : State} {b : Word} (h : StoredAt as s t) (hb : ∀ a ∈ as, touches a b = false) :
    t.peek b = s.peek b := by
  induction as generalizing s with
  | nil => exact SameOutsideCpu.peek h b
  | cons a as ih =>
    obtain ⟨x, v, w, hx, hw, h⟩ := h
    rw [ih h fun a ha => hb a (List.mem_cons_of_mem _ ha), busWrite_peek_other hw (hb a List.mem_cons_self), hx.peek]

@[simp] theorem SameOutsideCpu.setReg (s : State) (r : Reg8) (v : Byte) : SameOutsideCpu s (s.setReg r v) := by cases r <;> rfl

theorem SameOutsideCpu.setPair (s : State) (p : Pair) (v : Word) : SameOutsideCpu s (s.setPair p v) := by cases p <;> rfl

theorem SameOutsideCpu.setStackPair (s : State) (p : StackPair) (v : Word) : SameOutsideCpu s (s.setStackPair p v) := by
  cases p <;> rfl

theorem SameOutsideCpu.finish {n : Nat} {s t u : State} (h : SameOutsideCpu s t) (h' : finish n t = .next u) : SameOutsideCpu s u := by
  rw [finish_next h']; exact h.trans rfl

theorem State.pushed_stored {v : Word} {s u : State} (h : s.pushed v = .ok u) : StoredAt [s.cpu.sp - 1, s.cpu.sp - 2] s u := by
  obtain ⟨t, ht, hu⟩ := State.pushed_ok h
  exact ⟨_, _, t, by exact rfl, ht, _, _, u, by exact rfl, hu, .refl u⟩

theorem Operand8.written_stored {x : Operand8} {v : Byte} {s u : State} (h : x.written v s = .ok u) :
    StoredAt (x.storeAddrs s) s u := by
  cases x with
  | reg r => cases h; exact .setReg s r v
  | mhl => exact .one h (.refl u)

theorem pushThen_stored {v : Word} {n : Nat} {s t : State} {g : State → State} (hg : ∀ u, SameOutsideCpu u (g u))
    (h : pushThen v s (fun u => finish n (g u)) = .next t) : StoredAt [s.cpu.sp - 1, s.cpu.sp - 2] s t := by
  obtain ⟨u, hu, h⟩ := pushThen_next h
  exact (State.pushed_stored hu).cpu ((hg u).finish h)

theorem popThen_same {n : Nat} {s t : State} {g : Word → State → State} (hg : ∀ v u, SameOutsideCpu u (g v u))
    (h : popThen s (fun v u => finish n (g v u)) = .next t) : SameOutsideCpu s t := by
  obtain ⟨v, -, h⟩ := popThen_next h
  exact (SameOutsideCpu.trans (by exact rfl) (hg v _)).finish h

theorem loadThen_same {a : Word} {n : Nat} {s t : State} {g : Byte → State} (hg : ∀ v, SameOutsideCpu s (g v))
    (h : loadThen a s (fun v => finish n (g v)) = .next t) : SameOutsideCpu s t := by
  obtain ⟨v, -, h⟩ := loadThen_next h
  exact (hg v).finish h

theorem storeThen_stored {a : Word} {v : Byte} {n : Nat} {s t : State} {g : State → State} (hg : ∀ u, SameOutsideCpu u (g u))
    (h : storeThen a v s (fun u => finish n (g u)) = .next t) : StoredAt [a] s t := by
  obtain ⟨u, hu, h⟩ := storeThen_next h
  exact .one hu ((hg u).finish h)

theorem finish_same {n : Nat} {s t u : State} (h : finish n t = .next u) (hg : SameOutsideCpu s t) : SameOutsideCpu s u := hg.finish h

/-- What a form of the CB page does outside the CPU registers. -/
theorem rot_stored {op : RotOp} {x : Operand8} {s t : State} (h : rot op x s = .next t) : StoredAt (x.storeAddrs s) s t := by
  obtain ⟨v, -, h⟩ := readOperand_next h
  obtain ⟨u, hu, h⟩ := writeOperand_next h
  exact (Operand8.written_stored hu).cpu (finish_same h rfl)

theorem bit_stored {b : Bit3} {x : Operand8} {s t : State} (h : bit b x s = .next t) : StoredAt [] s t := by
  obtain ⟨v, -, h⟩ := readOperand_next h
  exact finish_same h rfl

theorem res_stored {b : Bit3} {x : Operand8} {s t : State} (h : res b x s = .next t) : StoredAt (x.storeAddrs s) s t := by
  obtain ⟨v, -, h⟩ := readOperand_next h
  obtain ⟨u, hu, h⟩ := writeOperand_next h
  exact (Operand8.written_stored hu).cpu (finish_same h rfl)

theorem set_stored {b : Bit3} {x : Operand8} {s t : State} (h : set b x s = .next t) : StoredAt (x.storeAddrs s) s t := by
  obtain ⟨v, -, h⟩ := readOperand_next h
  obtain ⟨u, hu, h⟩ := writeOperand_next h
  exact (Operand8.written_stored hu).cpu (finish_same h rfl)

/-- What an ALU operation leaves of the machine outside the CPU registers. -/
theorem alu_same {op : AluOp} {x : AluSrc} {s t : State} (h : alu op x s = .next t) : SameOutsideCpu s t := by
  obtain ⟨v, -, h⟩ := readAluSrc_next h
  cases op <;> exact finish_same h rfl

theorem execForm_stored {f : Form} {s t : State} (h : execForm f s = .next t) : StoredAt (f.storeAddrs s) s t := by
  cases f <;> simp only [execForm] at h
  case stop | illegal => cases h
  case ldRegReg | ldRegImm => exact finish_same h (.setReg ..)
  case ldRegMHl => exact loadThen_same (fun v => .setReg ..) h
  case ldAMPair | ldAMImm16 | ldhAMN | ldAMC | ldAMHlInc | ldAMHlDec => exact loadThen_same (fun v => by exact rfl) h
  case ldMHlReg | ldMHlImm | ldMPairA | ldMImm16A | ldhMNA | ldMCA | ldMHlIncA | ldMHlDecA =>
    exact storeThen_stored (fun u => by exact rfl) h
  case ldPairImm | incPair | decPair => exact finish_same h (.setPair ..)
  case ldMImm16Sp nn =>
    obtain ⟨u, hu, h⟩ := storeThen_next h
    exact ⟨s, _, u, .refl s, hu, storeThen_stored (g := id) (fun u => .refl u) h⟩
  case push => exact pushThen_stored (fun u => .refl u) h
  case pop p => exact popThen_same (fun v u => .setStackPair ..) h
  case alu => exact alu_same h
  case incReg r | decReg r => exact finish_same h (SameOutsideCpu.trans (.setReg s r _) rfl)
  case incMHl | decMHl =>
    obtain ⟨v, -, h⟩ := loadThen_next h
    exact storeThen_stored (fun u => by exact rfl) h
  case rot => exact rot_stored h
  case bit => exact bit_stored h
  case res => exact res_stored h
  case set => exact set_stored h
  case call | rst => exact pushThen_stored (fun u => by exact rfl) h
  case callCond cc nn =>
    unfold callCond at h
    simp only [Form.storeAddrs]
    split at h
    · rw [if_pos ‹_›]; exact pushThen_stored (fun u => by exact rfl) h
    · rw [if_neg ‹_›]; exact finish_same h rfl
  case ret => exact popThen_same (fun v u => by exact rfl) h
  case reti =>
    unfold reti returnFromIrq at h
    exact popThen_same (fun v u => by exact rfl) h
  case retCond cc =>
    unfold retCond at h
    split at h
    · exact popThen_same (fun v u => by exact rfl) h
    · exact finish_same h rfl
  case jpCond cc nn | jrCond cc nn =>
    first | unfold jpCond at h | unfold jrCond at h
    split at h <;> exact finish_same h rfl
  case prefixCb c =>
    show StoredAt ((decodeCb c).cbStoreAddrs s) s t
    unfold prefixCb at h
    unfold decodeCb
    generalize (fieldX c).toNat = x at h ⊢
    rcases x with _ | _ | _ | x
    · exact rot_stored h
    · exact bit_stored h
    · exact res_stored h
    · exact set_stored h
  all_goals exact finish_same h rfl

/-- What an instruction does outside the CPU registers: the bus writes at its store addresses, in order, and nothing else. -/
theorem exec_stored {i : Instr} {s t : State} (h : exec i s = .next t) : StoredAt (i.form.storeAddrs s) s t :=
  execForm_stored (by rw [← exec_eq]; exact h)

end Sys2Proof.Machine
end

