-- ==== Sys2Proof/Laws/PerInstr.lean ====
section
/-! SUPPORT. A statement made per instruction: the first byte of an encoding names its length (30_encoding.md R150, R162). -/

/-- The length that the first byte of the encoding names is the length of the encoding. -/
def Sys2Proof.Laws.EncodeLength.Statement (i : Sys2Proof.Instr) : Prop :=
  Sys2Proof.opcodeLength ((Sys2Proof.encode i).headD 0) = (Sys2Proof.encode i).length

namespace Sys2Proof.Laws.EncodeLength

theorem ldBcImm16 (nn : Word) : Statement (.ldBcImm16 nn) := by
  show opcodeLength 0x01 = 3; decide
theorem ldBImm8 (n : Byte) : Statement (.ldBImm8 n) := by
  show opcodeLength 0x06 = 2; decide
theorem ldMImm16Sp (nn : Word) : Statement (.ldMImm16Sp nn) := by
  show opcodeLength 0x08 = 3; decide
theorem ldCImm8 (n : Byte) : Statement (.ldCImm8 n) := by
  show opcodeLength 0x0E = 2; decide
theorem stop (n : Byte) : Statement (.stop n) := by
  show opcodeLength 0x10 = 2; decide
theorem ldDeImm16 (nn : Word) : Statement (.ldDeImm16 nn) := by
  show opcodeLength 0x11 = 3; decide
theorem ldDImm8 (n : Byte) : Statement (.ldDImm8 n) := by
  show opcodeLength 0x16 = 2; decide
theorem jrRel (e : Byte) : Statement (.jrRel e) := by
  show opcodeLength 0x18 = 2; decide
theorem ldEImm8 (n : Byte) : Statement (.ldEImm8 n) := by
  show opcodeLength 0x1E = 2; decide
theorem jrNzRel (e : Byte) : Statement (.jrNzRel e) := by
  show opcodeLength 0x20 = 2; decide
theorem ldHlImm16 (nn : Word) : Statement (.ldHlImm16 nn) := by
  show opcodeLength 0x21 = 3; decide
theorem ldHImm8 (n : Byte) : Statement (.ldHImm8 n) := by
  show opcodeLength 0x26 = 2; decide
theorem jrZRel (e : Byte) : Statement (.jrZRel e) := by
  show opcodeLength 0x28 = 2; decide
theorem ldLImm8 (n : Byte) : Statement (.ldLImm8 n) := by
  show opcodeLength 0x2E = 2; decide
theorem jrNcRel (e : Byte) : Statement (.jrNcRel e) := by
  show opcodeLength 0x30 = 2; decide
theorem ldSpImm16 (nn : Word) : Statement (.ldSpImm16 nn) := by
  show opcodeLength 0x31 = 3; decide
theorem ldMHlImm8 (n : Byte) : Statement (.ldMHlImm8 n) := by
  show opcodeLength 0x36 = 2; decide
theorem jrCRel (e : Byte) : Statement (.jrCRel e) := by
  show opcodeLength 0x38 = 2; decide
theorem ldAImm8 (n : Byte) : Statement (.ldAImm8 n) := by
  show opcodeLength 0x3E = 2; decide
theorem jpNzImm16 (nn : Word) : Statement (.jpNzImm16 nn) := by
  show opcodeLength 0xC2 = 3; decide
theorem jpImm16 (nn : Word) : Statement (.jpImm16 nn) := by
  show opcodeLength 0xC3 = 3; decide
theorem callNzImm16 (nn : Word) : Statement (.callNzImm16 nn) := by
  show opcodeLength 0xC4 = 3; decide
theorem addAImm8 (n : Byte) : Statement (.addAImm8 n) := by
  show opcodeLength 0xC6 = 2; decide
theorem jpZImm16 (nn : Word) : Statement (.jpZImm16 nn) := by
  show opcodeLength 0xCA = 3; decide
theorem prefixCb (c : Byte) : Statement (.prefixCb c) := by
  show opcodeLength 0xCB = 2; decide
theorem callZImm16 (nn : Word) : Statement (.callZImm16 nn) := by
  show opcodeLength 0xCC = 3; decide
theorem callImm16 (nn : Word) : Statement (.callImm16 nn) := by
  show opcodeLength 0xCD = 3; decide
theorem adcAImm8 (n : Byte) : Statement (.adcAImm8 n) := by
  show opcodeLength 0xCE = 2; decide
theorem jpNcImm16 (nn : Word) : Statement (.jpNcImm16 nn) := by
  show opcodeLength 0xD2 = 3; decide
theorem callNcImm16 (nn : Word) : Statement (.callNcImm16 nn) := by
  show opcodeLength 0xD4 = 3; decide
theorem subImm8 (n : Byte) : Statement (.subImm8 n) := by
  show opcodeLength 0xD6 = 2; decide
theorem jpCImm16 (nn : Word) : Statement (.jpCImm16 nn) := by
  show opcodeLength 0xDA = 3; decide
theorem callCImm16 (nn : Word) : Statement (.callCImm16 nn) := by
  show opcodeLength 0xDC = 3; decide
theorem sbcAImm8 (n : Byte) : Statement (.sbcAImm8 n) := by
  show opcodeLength 0xDE = 2; decide
theorem ldhMNA (n : Byte) : Statement (.ldhMNA n) := by
  show opcodeLength 0xE0 = 2; decide
theorem andImm8 (n : Byte) : Statement (.andImm8 n) := by
  show opcodeLength 0xE6 = 2; decide
theorem addSpRel (e : Byte) : Statement (.addSpRel e) := by
  show opcodeLength 0xE8 = 2; decide
theorem ldMImm16A (nn : Word) : Statement (.ldMImm16A nn) := by
  show opcodeLength 0xEA = 3; decide
theorem xorImm8 (n : Byte) : Statement (.xorImm8 n) := by
  show opcodeLength 0xEE = 2; decide
theorem ldhAMN (n : Byte) : Statement (.ldhAMN n) := by
  show opcodeLength 0xF0 = 2; decide
theorem orImm8 (n : Byte) : Statement (.orImm8 n) := by
  show opcodeLength 0xF6 = 2; decide
theorem ldHlSpRel (e : Byte) : Statement (.ldHlSpRel e) := by
  show opcodeLength 0xF8 = 2; decide
theorem ldAMImm16 (nn : Word) : Statement (.ldAMImm16 nn) := by
  show opcodeLength 0xFA = 3; decide
theorem cpImm8 (n : Byte) : Statement (.cpImm8 n) := by
  show opcodeLength 0xFE = 2; decide
theorem nop : Statement .nop := by show opcodeLength 0x00 = 1; decide
theorem ldMBcA : Statement .ldMBcA := by show opcodeLength 0x02 = 1; decide
theorem incBc : Statement .incBc := by show opcodeLength 0x03 = 1; decide
theorem incB : Statement .incB := by show opcodeLength 0x04 = 1; decide
theorem decB : Statement .decB := by show opcodeLength 0x05 = 1; decide
theorem rlca : Statement .rlca := by show opcodeLength 0x07 = 1; decide
theorem addHlBc : Statement .addHlBc := by show opcodeLength 0x09 = 1; decide
theorem ldAMBc : Statement .ldAMBc := by show opcodeLength 0x0A = 1; decide
theorem decBc : Statement .decBc := by show opcodeLength 0x0B = 1; decide
theorem incC : Statement .incC := by show opcodeLength 0x0C = 1; decide
theorem decC : Statement .decC := by show opcodeLength 0x0D = 1; decide
theorem rrca : Statement .rrca := by show opcodeLength 0x0F = 1; decide
theorem ldMDeA : Statement .ldMDeA := by show opcodeLength 0x12 = 1; decide
theorem incDe : Statement .incDe := by show opcodeLength 0x13 = 1; decide
theorem incD : Statement .incD := by show opcodeLength 0x14 = 1; decide
theorem decD : Statement .decD := by show opcodeLength 0x15 = 1; decide
theorem rla : Statement .rla := by show opcodeLength 0x17 = 1; decide
theorem addHlDe : Statement .addHlDe := by show opcodeLength 0x19 = 1; decide
theorem ldAMDe : Statement .ldAMDe := by show opcodeLength 0x1A = 1; decide
theorem decDe : Statement .decDe := by show opcodeLength 0x1B = 1; decide
theorem incE : Statement .incE := by show opcodeLength 0x1C = 1; decide
theorem decE : Statement .decE := by show opcodeLength 0x1D = 1; decide
theorem rra : Statement .rra := by show opcodeLength 0x1F = 1; decide
theorem ldMHlIncA : Statement .ldMHlIncA := by show opcodeLength 0x22 = 1; decide
theorem incHl : Statement .incHl := by show opcodeLength 0x23 = 1; decide
theorem incH : Statement .incH := by show opcodeLength 0x24 = 1; decide
theorem decH : Statement .decH := by show opcodeLength 0x25 = 1; decide
theorem daa : Statement .daa := by show opcodeLength 0x27 = 1; decide
theorem addHlHl : Statement .addHlHl := by show opcodeLength 0x29 = 1; decide
theorem ldAMHlInc : Statement .ldAMHlInc := by show opcodeLength 0x2A = 1; decide
theorem decHl : Statement .decHl := by show opcodeLength 0x2B = 1; decide
theorem incL : Statement .incL := by show opcodeLength 0x2C = 1; decide
theorem decL : Statement .decL := by show opcodeLength 0x2D = 1; decide
theorem cpl : Statement .cpl := by show opcodeLength 0x2F = 1; decide
theorem ldMHlDecA : Statement .ldMHlDecA := by show opcodeLength 0x32 = 1; decide
theorem incSp : Statement .incSp := by show opcodeLength 0x33 = 1; decide
theorem incMHl : Statement .incMHl := by show opcodeLength 0x34 = 1; decide
theorem decMHl : Statement .decMHl := by show opcodeLength 0x35 = 1; decide
theorem scf : Statement .scf := by show opcodeLength 0x37 = 1; decide
theorem addHlSp : Statement .addHlSp := by show opcodeLength 0x39 = 1; decide
theorem ldAMHlDec : Statement .ldAMHlDec := by show opcodeLength 0x3A = 1; decide
theorem decSp : Statement .decSp := by show opcodeLength 0x3B = 1; decide
theorem incA : Statement .incA := by show opcodeLength 0x3C = 1; decide
theorem decA : Statement .decA := by show opcodeLength 0x3D = 1; decide
theorem ccf : Statement .ccf := by show opcodeLength 0x3F = 1; decide
theorem ldBB : Statement .ldBB := by show opcodeLength 0x40 = 1; decide
theorem ldBC : Statement .ldBC := by show opcodeLength 0x41 = 1; decide
theorem ldBD : Statement .ldBD := by show opcodeLength 0x42 = 1; decide
theorem ldBE : Statement .ldBE := by show opcodeLength 0x43 = 1; decide
theorem ldBH : Statement .ldBH := by show opcodeLength 0x44 = 1; decide
theorem ldBL : Statement .ldBL := by show opcodeLength 0x45 = 1; decide
theorem ldBMHl : Statement .ldBMHl := by show opcodeLength 0x46 = 1; decide
theorem ldBA : Statement .ldBA := by show opcodeLength 0x47 = 1; decide
theorem ldCB : Statement .ldCB := by show opcodeLength 0x48 = 1; decide
theorem ldCC : Statement .ldCC := by show opcodeLength 0x49 = 1; decide
theorem ldCD : Statement .ldCD := by show opcodeLength 0x4A = 1; decide
theorem ldCE : Statement .ldCE := by show opcodeLength 0x4B = 1; decide
theorem ldCH : Statement .ldCH := by show opcodeLength 0x4C = 1; decide
theorem ldCL : Statement .ldCL := by show opcodeLength 0x4D = 1; decide
theorem ldCMHl : Statement .ldCMHl := by show opcodeLength 0x4E = 1; decide
theorem ldCA : Statement .ldCA := by show opcodeLength 0x4F = 1; decide
theorem ldDB : Statement .ldDB := by show opcodeLength 0x50 = 1; decide
theorem ldDC : Statement .ldDC := by show opcodeLength 0x51 = 1; decide
theorem ldDD : Statement .ldDD := by show opcodeLength 0x52 = 1; decide
theorem ldDE : Statement .ldDE := by show opcodeLength 0x53 = 1; decide
theorem ldDH : Statement .ldDH := by show opcodeLength 0x54 = 1; decide
theorem ldDL : Statement .ldDL := by show opcodeLength 0x55 = 1; decide
theorem ldDMHl : Statement .ldDMHl := by show opcodeLength 0x56 = 1; decide
theorem ldDA : Statement .ldDA := by show opcodeLength 0x57 = 1; decide
theorem ldEB : Statement .ldEB := by show opcodeLength 0x58 = 1; decide
theorem ldEC : Statement .ldEC := by show opcodeLength 0x59 = 1; decide
theorem ldED : Statement .ldED := by show opcodeLength 0x5A = 1; decide
theorem ldEE : Statement .ldEE := by show opcodeLength 0x5B = 1; decide
theorem ldEH : Statement .ldEH := by show opcodeLength 0x5C = 1; decide
theorem ldEL : Statement .ldEL := by show opcodeLength 0x5D = 1; decide
theorem ldEMHl : Statement .ldEMHl := by show opcodeLength 0x5E = 1; decide
theorem ldEA : Statement .ldEA := by show opcodeLength 0x5F = 1; decide
theorem ldHB : Statement .ldHB := by show opcodeLength 0x60 = 1; decide
theorem ldHC : Statement .ldHC := by show opcodeLength 0x61 = 1; decide
theorem ldHD : Statement .ldHD := by show opcodeLength 0x62 = 1; decide
theorem ldHE : Statement .ldHE := by show opcodeLength 0x63 = 1; decide
theorem ldHH : Statement .ldHH := by show opcodeLength 0x64 = 1; decide
theorem ldHL : Statement .ldHL := by show opcodeLength 0x65 = 1; decide
theorem ldHMHl : Statement .ldHMHl := by show opcodeLength 0x66 = 1; decide
theorem ldHA : Statement .ldHA := by show opcodeLength 0x67 = 1; decide
theorem ldLB : Statement .ldLB := by show opcodeLength 0x68 = 1; decide
theorem ldLC : Statement .ldLC := by show opcodeLength 0x69 = 1; decide
theorem ldLD : Statement .ldLD := by show opcodeLength 0x6A = 1; decide
theorem ldLE : Statement .ldLE := by show opcodeLength 0x6B = 1; decide
theorem ldLH : Statement .ldLH := by show opcodeLength 0x6C = 1; decide
theorem ldLL : Statement .ldLL := by show opcodeLength 0x6D = 1; decide
theorem ldLMHl : Statement .ldLMHl := by show opcodeLength 0x6E = 1; decide
theorem ldLA : Statement .ldLA := by show opcodeLength 0x6F = 1; decide
theorem ldMHlB : Statement .ldMHlB := by show opcodeLength 0x70 = 1; decide
theorem ldMHlC : Statement .ldMHlC := by show opcodeLength 0x71 = 1; decide
theorem ldMHlD : Statement .ldMHlD := by show opcodeLength 0x72 = 1; decide
theorem ldMHlE : Statement .ldMHlE := by show opcodeLength 0x73 = 1; decide
theorem ldMHlH : Statement .ldMHlH := by show opcodeLength 0x74 = 1; decide
theorem ldMHlL : Statement .ldMHlL := by show opcodeLength 0x75 = 1; decide
theorem halt : Statement .halt := by show opcodeLength 0x76 = 1; decide
theorem ldMHlA : Statement .ldMHlA := by show opcodeLength 0x77 = 1; decide
theorem ldAB : Statement .ldAB := by show opcodeLength 0x78 = 1; decide
theorem ldAC : Statement .ldAC := by show opcodeLength 0x79 = 1; decide
theorem ldAD : Statement .ldAD := by show opcodeLength 0x7A = 1; decide
theorem ldAE : Statement .ldAE := by show opcodeLength 0x7B = 1; decide
theorem ldAH : Statement .ldAH := by show opcodeLength 0x7C = 1; decide
theorem ldAL : Statement .ldAL := by show opcodeLength 0x7D = 1; decide
theorem ldAMHl : Statement .ldAMHl := by show opcodeLength 0x7E = 1; decide
theorem ldAA : Statement .ldAA := by show opcodeLength 0x7F = 1; decide
theorem addAB : Statement .addAB := by show opcodeLength 0x80 = 1; decide
theorem addAC : Statement .addAC := by show opcodeLength 0x81 = 1; decide
theorem addAD : Statement .addAD := by show opcodeLength 0x82 = 1; decide
theorem addAE : Statement .addAE := by show opcodeLength 0x83 = 1; decide
theorem addAH : Statement .addAH := by show opcodeLength 0x84 = 1; decide
theorem addAL : Statement .addAL := by show opcodeLength 0x85 = 1; decide
theorem addAMHl : Statement .addAMHl := by show opcodeLength 0x86 = 1; decide
theorem addAA : Statement .addAA := by show opcodeLength 0x87 = 1; decide
theorem adcAB : Statement .adcAB := by show opcodeLength 0x88 = 1; decide
theorem adcAC : Statement .adcAC := by show opcodeLength 0x89 = 1; decide
theorem adcAD : Statement .adcAD := by show opcodeLength 0x8A = 1; decide
theorem adcAE : Statement .adcAE := by show opcodeLength 0x8B = 1; decide
theorem adcAH : Statement .adcAH := by show opcodeLength 0x8C = 1; decide
theorem adcAL : Statement .adcAL := by show opcodeLength 0x8D = 1; decide
theorem adcAMHl : Statement .adcAMHl := by show opcodeLength 0x8E = 1; decide
theorem adcAA : Statement .adcAA := by show opcodeLength 0x8F = 1; decide
theorem subB : Statement .subB := by show opcodeLength 0x90 = 1; decide
theorem subC : Statement .subC := by show opcodeLength 0x91 = 1; decide
theorem subD : Statement .subD := by show opcodeLength 0x92 = 1; decide
theorem subE : Statement .subE := by show opcodeLength 0x93 = 1; decide
theorem subH : Statement .subH := by show opcodeLength 0x94 = 1; decide
theorem subL : Statement .subL := by show opcodeLength 0x95 = 1; decide
theorem subMHl : Statement .subMHl := by show opcodeLength 0x96 = 1; decide
theorem subA : Statement .subA := by show opcodeLength 0x97 = 1; decide
theorem sbcAB : Statement .sbcAB := by show opcodeLength 0x98 = 1; decide
theorem sbcAC : Statement .sbcAC := by show opcodeLength 0x99 = 1; decide
theorem sbcAD : Statement .sbcAD := by show opcodeLength 0x9A = 1; decide
theorem sbcAE : Statement .sbcAE := by show opcodeLength 0x9B = 1; decide
theorem sbcAH : Statement .sbcAH := by show opcodeLength 0x9C = 1; decide
theorem sbcAL : Statement .sbcAL := by show opcodeLength 0x9D = 1; decide
theorem sbcAMHl : Statement .sbcAMHl := by show opcodeLength 0x9E = 1; decide
theorem sbcAA : Statement .sbcAA := by show opcodeLength 0x9F = 1; decide
theorem andB : Statement .andB := by show opcodeLength 0xA0 = 1; decide
theorem andC : Statement .andC := by show opcodeLength 0xA1 = 1; decide
theorem andD : Statement .andD := by show opcodeLength 0xA2 = 1; decide
theorem andE : Statement .andE := by show opcodeLength 0xA3 = 1; decide
theorem andH : Statement .andH := by show opcodeLength 0xA4 = 1; decide
theorem andL : Statement .andL := by show opcodeLength 0xA5 = 1; decide
theorem andMHl : Statement .andMHl := by show opcodeLength 0xA6 = 1; decide
theorem andA : Statement .andA := by show opcodeLength 0xA7 = 1; decide
theorem xorB : Statement .xorB := by show opcodeLength 0xA8 = 1; decide
theorem xorC : Statement .xorC := by show opcodeLength 0xA9 = 1; decide
theorem xorD : Statement .xorD := by show opcodeLength 0xAA = 1; decide
theorem xorE : Statement .xorE := by show opcodeLength 0xAB = 1; decide
theorem xorH : Statement .xorH := by show opcodeLength 0xAC = 1; decide
theorem xorL : Statement .xorL := by show opcodeLength 0xAD = 1; decide
theorem xorMHl : Statement .xorMHl := by show opcodeLength 0xAE = 1; decide
theorem xorA : Statement .xorA := by show opcodeLength 0xAF = 1; decide
theorem orB : Statement .orB := by show opcodeLength 0xB0 = 1; decide
theorem orC : Statement .orC := by show opcodeLength 0xB1 = 1; decide
theorem orD : Statement .orD := by show opcodeLength 0xB2 = 1; decide
theorem orE : Statement .orE := by show opcodeLength 0xB3 = 1; decide
theorem orH : Statement .orH := by show opcodeLength 0xB4 = 1; decide
theorem orL : Statement .orL := by show opcodeLength 0xB5 = 1; decide
theorem orMHl : Statement .orMHl := by show opcodeLength 0xB6 = 1; decide
theorem orA : Statement .orA := by show opcodeLength 0xB7 = 1; decide
theorem cpB : Statement .cpB := by show opcodeLength 0xB8 = 1; decide
theorem cpC : Statement .cpC := by show opcodeLength 0xB9 = 1; decide
theorem cpD : Statement .cpD := by show opcodeLength 0xBA = 1; decide
theorem cpE : Statement .cpE := by show opcodeLength 0xBB = 1; decide
theorem cpH : Statement .cpH := by show opcodeLength 0xBC = 1; decide
theorem cpL : Statement .cpL := by show opcodeLength 0xBD = 1; decide
theorem cpMHl : Statement .cpMHl := by show opcodeLength 0xBE = 1; decide
theorem cpA : Statement .cpA := by show opcodeLength 0xBF = 1; decide
theorem retNz : Statement .retNz := by show opcodeLength 0xC0 = 1; decide
theorem popBc : Statement .popBc := by show opcodeLength 0xC1 = 1; decide
theorem pushBc : Statement .pushBc := by show opcodeLength 0xC5 = 1; decide
theorem rst00 : Statement .rst00 := by show opcodeLength 0xC7 = 1; decide
theorem retZ : Statement .retZ := by show opcodeLength 0xC8 = 1; decide
theorem ret : Statement .ret := by show opcodeLength 0xC9 = 1; decide
theorem rst08 : Statement .rst08 := by show opcodeLength 0xCF = 1; decide
theorem retNc : Statement .retNc := by show opcodeLength 0xD0 = 1; decide
theorem popDe : Statement .popDe := by show opcodeLength 0xD1 = 1; decide
theorem illegalD3 : Statement .illegalD3 := by show opcodeLength 0xD3 = 1; decide
theorem pushDe : Statement .pushDe := by show opcodeLength 0xD5 = 1; decide
theorem rst10 : Statement .rst10 := by show opcodeLength 0xD7 = 1; decide
theorem retC : Statement .retC := by show opcodeLength 0xD8 = 1; decide
theorem reti : Statement .reti := by show opcodeLength 0xD9 = 1; decide
theorem illegalDB : Statement .illegalDB := by show opcodeLength 0xDB = 1; decide
theorem illegalDD : Statement .illegalDD := by show opcodeLength 0xDD = 1; decide
theorem rst18 : Statement .rst18 := by show opcodeLength 0xDF = 1; decide
theorem popHl : Statement .popHl := by show opcodeLength 0xE1 = 1; decide
theorem ldMCA : Statement .ldMCA := by show opcodeLength 0xE2 = 1; decide
theorem illegalE3 : Statement .illegalE3 := by show opcodeLength 0xE3 = 1; decide
theorem illegalE4 : Statement .illegalE4 := by show opcodeLength 0xE4 = 1; decide
theorem pushHl : Statement .pushHl := by show opcodeLength 0xE5 = 1; decide
theorem rst20 : Statement .rst20 := by show opcodeLength 0xE7 = 1; decide
theorem jpHl : Statement .jpHl := by show opcodeLength 0xE9 = 1; decide
theorem illegalEB : Statement .illegalEB := by show opcodeLength 0xEB = 1; decide
theorem illegalEC : Statement .illegalEC := by show opcodeLength 0xEC = 1; decide
theorem illegalED : Statement .illegalED := by show opcodeLength 0xED = 1; decide
theorem rst28 : Statement .rst28 := by show opcodeLength 0xEF = 1; decide
theorem popAf : Statement .popAf := by show opcodeLength 0xF1 = 1; decide
theorem ldAMC : Statement .ldAMC := by show opcodeLength 0xF2 = 1; decide
theorem di : Statement .di := by show opcodeLength 0xF3 = 1; decide
theorem illegalF4 : Statement .illegalF4 := by show opcodeLength 0xF4 = 1; decide
theorem pushAf : Statement .pushAf := by show opcodeLength 0xF5 = 1; decide
theorem rst30 : Statement .rst30 := by show opcodeLength 0xF7 = 1; decide
theorem ldSpHl : Statement .ldSpHl := by show opcodeLength 0xF9 = 1; decide
theorem ei : Statement .ei := by show opcodeLength 0xFB = 1; decide
theorem illegalFC : Statement .illegalFC := by show opcodeLength 0xFC = 1; decide
theorem illegalFD : Statement .illegalFD := by show opcodeLength 0xFD = 1; decide
theorem rst38 : Statement .rst38 := by show opcodeLength 0xFF = 1; decide
theorem rlcB : Statement .rlcB := by show opcodeLength 0xCB = 2; decide
theorem rlcC : Statement .rlcC := by show opcodeLength 0xCB = 2; decide
theorem rlcD : Statement .rlcD := by show opcodeLength 0xCB = 2; decide
theorem rlcE : Statement .rlcE := by show opcodeLength 0xCB = 2; decide
theorem rlcH : Statement .rlcH := by show opcodeLength 0xCB = 2; decide
theorem rlcL : Statement .rlcL := by show opcodeLength 0xCB = 2; decide
theorem rlcMHl : Statement .rlcMHl := by show opcodeLength 0xCB = 2; decide
theorem rlcA : Statement .rlcA := by show opcodeLength 0xCB = 2; decide
theorem rrcB : Statement .rrcB := by show opcodeLength 0xCB = 2; decide
theorem rrcC : Statement .rrcC := by show opcodeLength 0xCB = 2; decide
theorem rrcD : Statement .rrcD := by show opcodeLength 0xCB = 2; decide
theorem rrcE : Statement .rrcE := by show opcodeLength 0xCB = 2; decide
theorem rrcH : Statement .rrcH := by show opcodeLength 0xCB = 2; decide
theorem rrcL : Statement .rrcL := by show opcodeLength 0xCB = 2; decide
theorem rrcMHl : Statement .rrcMHl := by show opcodeLength 0xCB = 2; decide
theorem rrcA : Statement .rrcA := by show opcodeLength 0xCB = 2; decide
theorem rlB : Statement .rlB := by show opcodeLength 0xCB = 2; decide
theorem rlC : Statement .rlC := by show opcodeLength 0xCB = 2; decide
theorem rlD : Statement .rlD := by show opcodeLength 0xCB = 2; decide
theorem rlE : Statement .rlE := by show opcodeLength 0xCB = 2; decide
theorem rlH : Statement .rlH := by show opcodeLength 0xCB = 2; decide
theorem rlL : Statement .rlL := by show opcodeLength 0xCB = 2; decide
theorem rlMHl : Statement .rlMHl := by show opcodeLength 0xCB = 2; decide
theorem rlA : Statement .rlA := by show opcodeLength 0xCB = 2; decide
theorem rrB : Statement .rrB := by show opcodeLength 0xCB = 2; decide
theorem rrC : Statement .rrC := by show opcodeLength 0xCB = 2; decide
theorem rrD : Statement .rrD := by show opcodeLength 0xCB = 2; decide
theorem rrE : Statement .rrE := by show opcodeLength 0xCB = 2; decide
theorem rrH : Statement .rrH := by show opcodeLength 0xCB = 2; decide
theorem rrL : Statement .rrL := by show opcodeLength 0xCB = 2; decide
theorem rrMHl : Statement .rrMHl := by show opcodeLength 0xCB = 2; decide
theorem rrA : Statement .rrA := by show opcodeLength 0xCB = 2; decide
theorem slaB : Statement .slaB := by show opcodeLength 0xCB = 2; decide
theorem slaC : Statement .slaC := by show opcodeLength 0xCB = 2; decide
theorem slaD : Statement .slaD := by show opcodeLength 0xCB = 2; decide
theorem slaE : Statement .slaE := by show opcodeLength 0xCB = 2; decide
theorem slaH : Statement .slaH := by show opcodeLength 0xCB = 2; decide
theorem slaL : Statement .slaL := by show opcodeLength 0xCB = 2; decide
theorem slaMHl : Statement .slaMHl := by show opcodeLength 0xCB = 2; decide
theorem slaA : Statement .slaA := by show opcodeLength 0xCB = 2; decide
theorem sraB : Statement .sraB := by show opcodeLength 0xCB = 2; decide
theorem sraC : Statement .sraC := by show opcodeLength 0xCB = 2; decide
theorem sraD : Statement .sraD := by show opcodeLength 0xCB = 2; decide
theorem sraE : Statement .sraE := by show opcodeLength 0xCB = 2; decide
theorem sraH : Statement .sraH := by show opcodeLength 0xCB = 2; decide
theorem sraL : Statement .sraL := by show opcodeLength 0xCB = 2; decide
theorem sraMHl : Statement .sraMHl := by show opcodeLength 0xCB = 2; decide
theorem sraA : Statement .sraA := by show opcodeLength 0xCB = 2; decide
theorem swapB : Statement .swapB := by show opcodeLength 0xCB = 2; decide
theorem swapC : Statement .swapC := by show opcodeLength 0xCB = 2; decide
theorem swapD : Statement .swapD := by show opcodeLength 0xCB = 2; decide
theorem swapE : Statement .swapE := by show opcodeLength 0xCB = 2; decide
theorem swapH : Statement .swapH := by show opcodeLength 0xCB = 2; decide
theorem swapL : Statement .swapL := by show opcodeLength 0xCB = 2; decide
theorem swapMHl : Statement .swapMHl := by show opcodeLength 0xCB = 2; decide
theorem swapA : Statement .swapA := by show opcodeLength 0xCB = 2; decide
theorem srlB : Statement .srlB := by show opcodeLength 0xCB = 2; decide
theorem srlC : Statement .srlC := by show opcodeLength 0xCB = 2; decide
theorem srlD : Statement .srlD := by show opcodeLength 0xCB = 2; decide
theorem srlE : Statement .srlE := by show opcodeLength 0xCB = 2; decide
theorem srlH : Statement .srlH := by show opcodeLength 0xCB = 2; decide
theorem srlL : Statement .srlL := by show opcodeLength 0xCB = 2; decide
theorem srlMHl : Statement .srlMHl := by show opcodeLength 0xCB = 2; decide
theorem srlA : Statement .srlA := by show opcodeLength 0xCB = 2; decide
theorem bit0B : Statement .bit0B := by show opcodeLength 0xCB = 2; decide
theorem bit0C : Statement .bit0C := by show opcodeLength 0xCB = 2; decide
theorem bit0D : Statement .bit0D := by show opcodeLength 0xCB = 2; decide
theorem bit0E : Statement .bit0E := by show opcodeLength 0xCB = 2; decide
theorem bit0H : Statement .bit0H := by show opcodeLength 0xCB = 2; decide
theorem bit0L : Statement .bit0L := by show opcodeLength 0xCB = 2; decide
theorem bit0MHl : Statement .bit0MHl := by show opcodeLength 0xCB = 2; decide
theorem bit0A : Statement .bit0A := by show opcodeLength 0xCB = 2; decide
theorem bit1B : Statement .bit1B := by show opcodeLength 0xCB = 2; decide
theorem bit1C : Statement .bit1C := by show opcodeLength 0xCB = 2; decide
theorem bit1D : Statement .bit1D := by show opcodeLength 0xCB = 2; decide
theorem bit1E : Statement .bit1E := by show opcodeLength 0xCB = 2; decide
theorem bit1H : Statement .bit1H := by show opcodeLength 0xCB = 2; decide
theorem bit1L : Statement .bit1L := by show opcodeLength 0xCB = 2; decide
theorem bit1MHl : Statement .bit1MHl := by show opcodeLength 0xCB = 2; decide
theorem bit1A : Statement .bit1A := by show opcodeLength 0xCB = 2; decide
theorem bit2B : Statement .bit2B := by show opcodeLength 0xCB = 2; decide
theorem bit2C : Statement .bit2C := by show opcodeLength 0xCB = 2; decide
theorem bit2D : Statement .bit2D := by show opcodeLength 0xCB = 2; decide
theorem bit2E : Statement .bit2E := by show opcodeLength 0xCB = 2; decide
theorem bit2H : Statement .bit2H := by show opcodeLength 0xCB = 2; decide
theorem bit2L : Statement .bit2L := by show opcodeLength 0xCB = 2; decide
theorem bit2MHl : Statement .bit2MHl := by show opcodeLength 0xCB = 2; decide
theorem bit2A : Statement .bit2A := by show opcodeLength 0xCB = 2; decide
theorem bit3B : Statement .bit3B := by show opcodeLength 0xCB = 2; decide
theorem bit3C : Statement .bit3C := by show opcodeLength 0xCB = 2; decide
theorem bit3D : Statement .bit3D := by show opcodeLength 0xCB = 2; decide
theorem bit3E : Statement .bit3E := by show opcodeLength 0xCB = 2; decide
theorem bit3H : Statement .bit3H := by show opcodeLength 0xCB = 2; decide
theorem bit3L : Statement .bit3L := by show opcodeLength 0xCB = 2; decide
theorem bit3MHl : Statement .bit3MHl := by show opcodeLength 0xCB = 2; decide
theorem bit3A : Statement .bit3A := by show opcodeLength 0xCB = 2; decide
theorem bit4B : Statement .bit4B := by show opcodeLength 0xCB = 2; decide
theorem bit4C : Statement .bit4C := by show opcodeLength 0xCB = 2; decide
theorem bit4D : Statement .bit4D := by show opcodeLength 0xCB = 2; decide
theorem bit4E : Statement .bit4E := by show opcodeLength 0xCB = 2; decide
theorem bit4H : Statement .bit4H := by show opcodeLength 0xCB = 2; decide
theorem bit4L : Statement .bit4L := by show opcodeLength 0xCB = 2; decide
theorem bit4MHl : Statement .bit4MHl := by show opcodeLength 0xCB = 2; decide
theorem bit4A : Statement .bit4A := by show opcodeLength 0xCB = 2; decide
theorem bit5B : Statement .bit5B := by show opcodeLength 0xCB = 2; decide
theorem bit5C : Statement .bit5C := by show opcodeLength 0xCB = 2; decide
theorem bit5D : Statement .bit5D := by show opcodeLength 0xCB = 2; decide
theorem bit5E : Statement .bit5E := by show opcodeLength 0xCB = 2; decide
theorem bit5H : Statement .bit5H := by show opcodeLength 0xCB = 2; decide
theorem bit5L : Statement .bit5L := by show opcodeLength 0xCB = 2; decide
theorem bit5MHl : Statement .bit5MHl := by show opcodeLength 0xCB = 2; decide
theorem bit5A : Statement .bit5A := by show opcodeLength 0xCB = 2; decide
theorem bit6B : Statement .bit6B := by show opcodeLength 0xCB = 2; decide
theorem bit6C : Statement .bit6C := by show opcodeLength 0xCB = 2; decide
theorem bit6D : Statement .bit6D := by show opcodeLength 0xCB = 2; decide
theorem bit6E : Statement .bit6E := by show opcodeLength 0xCB = 2; decide
theorem bit6H : Statement .bit6H := by show opcodeLength 0xCB = 2; decide
theorem bit6L : Statement .bit6L := by show opcodeLength 0xCB = 2; decide
theorem bit6MHl : Statement .bit6MHl := by show opcodeLength 0xCB = 2; decide
theorem bit6A : Statement .bit6A := by show opcodeLength 0xCB = 2; decide
theorem bit7B : Statement .bit7B := by show opcodeLength 0xCB = 2; decide
theorem bit7C : Statement .bit7C := by show opcodeLength 0xCB = 2; decide
theorem bit7D : Statement .bit7D := by show opcodeLength 0xCB = 2; decide
theorem bit7E : Statement .bit7E := by show opcodeLength 0xCB = 2; decide
theorem bit7H : Statement .bit7H := by show opcodeLength 0xCB = 2; decide
theorem bit7L : Statement .bit7L := by show opcodeLength 0xCB = 2; decide
theorem bit7MHl : Statement .bit7MHl := by show opcodeLength 0xCB = 2; decide
theorem bit7A : Statement .bit7A := by show opcodeLength 0xCB = 2; decide
theorem res0B : Statement .res0B := by show opcodeLength 0xCB = 2; decide
theorem res0C : Statement .res0C := by show opcodeLength 0xCB = 2; decide
theorem res0D : Statement .res0D := by show opcodeLength 0xCB = 2; decide
theorem res0E : Statement .res0E := by show opcodeLength 0xCB = 2; decide
theorem res0H : Statement .res0H := by show opcodeLength 0xCB = 2; decide
theorem res0L : Statement .res0L := by show opcodeLength 0xCB = 2; decide
theorem res0MHl : Statement .res0MHl := by show opcodeLength 0xCB = 2; decide
theorem res0A : Statement .res0A := by show opcodeLength 0xCB = 2; decide
theorem res1B : Statement .res1B := by show opcodeLength 0xCB = 2; decide
theorem res1C : Statement .res1C := by show opcodeLength 0xCB = 2; decide
theorem res1D : Statement .res1D := by show opcodeLength 0xCB = 2; decide
theorem res1E : Statement .res1E := by show opcodeLength 0xCB = 2; decide
theorem res1H : Statement .res1H := by show opcodeLength 0xCB = 2; decide
theorem res1L : Statement .res1L := by show opcodeLength 0xCB = 2; decide
theorem res1MHl : Statement .res1MHl := by show opcodeLength 0xCB = 2; decide
theorem res1A : Statement .res1A := by show opcodeLength 0xCB = 2; decide
theorem res2B : Statement .res2B := by show opcodeLength 0xCB = 2; decide
theorem res2C : Statement .res2C := by show opcodeLength 0xCB = 2; decide
theorem res2D : Statement .res2D := by show opcodeLength 0xCB = 2; decide
theorem res2E : Statement .res2E := by show opcodeLength 0xCB = 2; decide
theorem res2H : Statement .res2H := by show opcodeLength 0xCB = 2; decide
theorem res2L : Statement .res2L := by show opcodeLength 0xCB = 2; decide
theorem res2MHl : Statement .res2MHl := by show opcodeLength 0xCB = 2; decide
theorem res2A : Statement .res2A := by show opcodeLength 0xCB = 2; decide
theorem res3B : Statement .res3B := by show opcodeLength 0xCB = 2; decide
theorem res3C : Statement .res3C := by show opcodeLength 0xCB = 2; decide
theorem res3D : Statement .res3D := by show opcodeLength 0xCB = 2; decide
theorem res3E : Statement .res3E := by show opcodeLength 0xCB = 2; decide
theorem res3H : Statement .res3H := by show opcodeLength 0xCB = 2; decide
theorem res3L : Statement .res3L := by show opcodeLength 0xCB = 2; decide
theorem res3MHl : Statement .res3MHl := by show opcodeLength 0xCB = 2; decide
theorem res3A : Statement .res3A := by show opcodeLength 0xCB = 2; decide
theorem res4B : Statement .res4B := by show opcodeLength 0xCB = 2; decide
theorem res4C : Statement .res4C := by show opcodeLength 0xCB = 2; decide
theorem res4D : Statement .res4D := by show opcodeLength 0xCB = 2; decide
theorem res4E : Statement .res4E := by show opcodeLength 0xCB = 2; decide
theorem res4H : Statement .res4H := by show opcodeLength 0xCB = 2; decide
theorem res4L : Statement .res4L := by show opcodeLength 0xCB = 2; decide
theorem res4MHl : Statement .res4MHl := by show opcodeLength 0xCB = 2; decide
theorem res4A : Statement .res4A := by show opcodeLength 0xCB = 2; decide
theorem res5B : Statement .res5B := by show opcodeLength 0xCB = 2; decide
theorem res5C : Statement .res5C := by show opcodeLength 0xCB = 2; decide
theorem res5D : Statement .res5D := by show opcodeLength 0xCB = 2; decide
theorem res5E : Statement .res5E := by show opcodeLength 0xCB = 2; decide
theorem res5H : Statement .res5H := by show opcodeLength 0xCB = 2; decide
theorem res5L : Statement .res5L := by show opcodeLength 0xCB = 2; decide
theorem res5MHl : Statement .res5MHl := by show opcodeLength 0xCB = 2; decide
theorem res5A : Statement .res5A := by show opcodeLength 0xCB = 2; decide
theorem res6B : Statement .res6B := by show opcodeLength 0xCB = 2; decide
theorem res6C : Statement .res6C := by show opcodeLength 0xCB = 2; decide
theorem res6D : Statement .res6D := by show opcodeLength 0xCB = 2; decide
theorem res6E : Statement .res6E := by show opcodeLength 0xCB = 2; decide
theorem res6H : Statement .res6H := by show opcodeLength 0xCB = 2; decide
theorem res6L : Statement .res6L := by show opcodeLength 0xCB = 2; decide
theorem res6MHl : Statement .res6MHl := by show opcodeLength 0xCB = 2; decide
theorem res6A : Statement .res6A := by show opcodeLength 0xCB = 2; decide
theorem res7B : Statement .res7B := by show opcodeLength 0xCB = 2; decide
theorem res7C : Statement .res7C := by show opcodeLength 0xCB = 2; decide
theorem res7D : Statement .res7D := by show opcodeLength 0xCB = 2; decide
theorem res7E : Statement .res7E := by show opcodeLength 0xCB = 2; decide
theorem res7H : Statement .res7H := by show opcodeLength 0xCB = 2; decide
theorem res7L : Statement .res7L := by show opcodeLength 0xCB = 2; decide
theorem res7MHl : Statement .res7MHl := by show opcodeLength 0xCB = 2; decide
theorem res7A : Statement .res7A := by show opcodeLength 0xCB = 2; decide
theorem set0B : Statement .set0B := by show opcodeLength 0xCB = 2; decide
theorem set0C : Statement .set0C := by show opcodeLength 0xCB = 2; decide
theorem set0D : Statement .set0D := by show opcodeLength 0xCB = 2; decide
theorem set0E : Statement .set0E := by show opcodeLength 0xCB = 2; decide
theorem set0H : Statement .set0H := by show opcodeLength 0xCB = 2; decide
theorem set0L : Statement .set0L := by show opcodeLength 0xCB = 2; decide
theorem set0MHl : Statement .set0MHl := by show opcodeLength 0xCB = 2; decide
theorem set0A : Statement .set0A := by show opcodeLength 0xCB = 2; decide
theorem set1B : Statement .set1B := by show opcodeLength 0xCB = 2; decide
theorem set1C : Statement .set1C := by show opcodeLength 0xCB = 2; decide
theorem set1D : Statement .set1D := by show opcodeLength 0xCB = 2; decide
theorem set1E : Statement .set1E := by show opcodeLength 0xCB = 2; decide
theorem set1H : Statement .set1H := by show opcodeLength 0xCB = 2; decide
theorem set1L : Statement .set1L := by show opcodeLength 0xCB = 2; decide
theorem set1MHl : Statement .set1MHl := by show opcodeLength 0xCB = 2; decide
theorem set1A : Statement .set1A := by show opcodeLength 0xCB = 2; decide
theorem set2B : Statement .set2B := by show opcodeLength 0xCB = 2; decide
theorem set2C : Statement .set2C := by show opcodeLength 0xCB = 2; decide
theorem set2D : Statement .set2D := by show opcodeLength 0xCB = 2; decide
theorem set2E : Statement .set2E := by show opcodeLength 0xCB = 2; decide
theorem set2H : Statement .set2H := by show opcodeLength 0xCB = 2; decide
theorem set2L : Statement .set2L := by show opcodeLength 0xCB = 2; decide
theorem set2MHl : Statement .set2MHl := by show opcodeLength 0xCB = 2; decide
theorem set2A : Statement .set2A := by show opcodeLength 0xCB = 2; decide
theorem set3B : Statement .set3B := by show opcodeLength 0xCB = 2; decide
theorem set3C : Statement .set3C := by show opcodeLength 0xCB = 2; decide
theorem set3D : Statement .set3D := by show opcodeLength 0xCB = 2; decide
theorem set3E : Statement .set3E := by show opcodeLength 0xCB = 2; decide
theorem set3H : Statement .set3H := by show opcodeLength 0xCB = 2; decide
theorem set3L : Statement .set3L := by show opcodeLength 0xCB = 2; decide
theorem set3MHl : Statement .set3MHl := by show opcodeLength 0xCB = 2; decide
theorem set3A : Statement .set3A := by show opcodeLength 0xCB = 2; decide
theorem set4B : Statement .set4B := by show opcodeLength 0xCB = 2; decide
theorem set4C : Statement .set4C := by show opcodeLength 0xCB = 2; decide
theorem set4D : Statement .set4D := by show opcodeLength 0xCB = 2; decide
theorem set4E : Statement .set4E := by show opcodeLength 0xCB = 2; decide
theorem set4H : Statement .set4H := by show opcodeLength 0xCB = 2; decide
theorem set4L : Statement .set4L := by show opcodeLength 0xCB = 2; decide
theorem set4MHl : Statement .set4MHl := by show opcodeLength 0xCB = 2; decide
theorem set4A : Statement .set4A := by show opcodeLength 0xCB = 2; decide
theorem set5B : Statement .set5B := by show opcodeLength 0xCB = 2; decide
theorem set5C : Statement .set5C := by show opcodeLength 0xCB = 2; decide
theorem set5D : Statement .set5D := by show opcodeLength 0xCB = 2; decide
theorem set5E : Statement .set5E := by show opcodeLength 0xCB = 2; decide
theorem set5H : Statement .set5H := by show opcodeLength 0xCB = 2; decide
theorem set5L : Statement .set5L := by show opcodeLength 0xCB = 2; decide
theorem set5MHl : Statement .set5MHl := by show opcodeLength 0xCB = 2; decide
theorem set5A : Statement .set5A := by show opcodeLength 0xCB = 2; decide
theorem set6B : Statement .set6B := by show opcodeLength 0xCB = 2; decide
theorem set6C : Statement .set6C := by show opcodeLength 0xCB = 2; decide
theorem set6D : Statement .set6D := by show opcodeLength 0xCB = 2; decide
theorem set6E : Statement .set6E := by show opcodeLength 0xCB = 2; decide
theorem set6H : Statement .set6H := by show opcodeLength 0xCB = 2; decide
theorem set6L : Statement .set6L := by show opcodeLength 0xCB = 2; decide
theorem set6MHl : Statement .set6MHl := by show opcodeLength 0xCB = 2; decide
theorem set6A : Statement .set6A := by show opcodeLength 0xCB = 2; decide
theorem set7B : Statement .set7B := by show opcodeLength 0xCB = 2; decide
theorem set7C : Statement .set7C := by show opcodeLength 0xCB = 2; decide
theorem set7D : Statement .set7D := by show opcodeLength 0xCB = 2; decide
theorem set7E : Statement .set7E := by show opcodeLength 0xCB = 2; decide
theorem set7H : Statement .set7H := by show opcodeLength 0xCB = 2; decide
theorem set7L : Statement .set7L := by show opcodeLength 0xCB = 2; decide
theorem set7MHl : Statement .set7MHl := by show opcodeLength 0xCB = 2; decide
theorem set7A : Statement .set7A := by show opcodeLength 0xCB = 2; decide

end Sys2Proof.Laws.EncodeLength
end

