-- ==== Sys2Proof/Laws/Session.lean ====
section
/-! SUPPORT. The memories of a session, and the session whose start is `State.reset`. -/

namespace Sys2Proof.Machine

theorem getD_replicate_zero (n k : Nat) : (List.replicate n (0 : Byte)).getD k 0 = 0 := by
  rw [List.getD_eq_getElem?_getD, List.getElem?_replicate]; split <;> rfl

/-- A memory made from a byte vector reads as the vector. -/
theorem Memory.read_ofBytes_vector {n : Nat} (v : Vector Byte n) (k : Fin n) : Memory.read (Memory.ofBytes v.toList) k = v[k] := by
  unfold Memory.ofBytes
  rw [Memory.read_ofBytesFrom]
  simp [List.getD_eq_getElem?_getD]

theorem construct_zeros {n : Nat} (h : 0x4000 ≤ n) (x : SessionArgs) (hx : x.rom = List.replicate n 0) :
    construct x = .ok (sessionState x 0) := by
  unfold construct
  rw [hx, List.length_replicate, if_neg (by omega)]
  simp only [getD_replicate_zero]
  rfl

/-- The reset state is a session's state at power-on, for the arguments `SessionArgs.default` (70_reset_and_hazards.md R600). -/
theorem construct_default : construct SessionArgs.default = .ok State.reset := by
  rw [construct_zeros (n := 0x8000) (by omega) _ rfl]
  unfold sessionState DeviceInit.ppu
  rw [show SessionArgs.default.rom = List.replicate 0x8000 0 from rfl, Memory.ofBytes_replicate_zero, List.length_replicate]
  simp only [SessionArgs.default, InitMem.zero, DeviceInit.postBoot, DeviceInit.boot, Vector.toList_replicate,
    Memory.ofBytes_replicate_zero, -List.reduceReplicate]
  rfl

end Sys2Proof.Machine
end

