-- ==== Sys2Proof/Laws/Step.lean ====
section
/-! SUPPORT. Everything a step can do, said once: the three paths of the CPU step and the ticks after it. -/

namespace Sys2Proof.Machine

theorem andThen_next {x : Exec} {k : State → Exec} {t : State} (h : Exec.andThen x k = .next t) :
    ∃ u, x = .next u ∧ k u = .next t := by
  cases x with
  | next u => exact ⟨u, rfl, h⟩
  | fault f => cases h
  | refused r => cases h

theorem checkFlags_next {s t : State} (h : checkFlags s = .next t) : t = s ∧ s.cpu.f &&& 0x0F = 0 := by
  unfold checkFlags at h
  split at h
  · cases h; exact ⟨rfl, ‹_›⟩
  · cases h

theorem checkFlags_ok {s : State} (h : s.cpu.f &&& 0x0F = 0) : checkFlags s = .next s := by
  unfold checkFlags; rw [if_pos h]

/-- An instruction that ran: its meaning ran with PC past it, and left F[3:0] = 0 (60_exceptions.md R452, 10_state.md R33). -/
theorem runInstr_next {i : Instr} {s t : State} (h : runInstr i s = .next t) :
    exec i (s.setPc (s.cpu.pc + BitVec.ofNat 16 i.length)) = .next t ∧ t.cpu.f &&& 0x0F = 0 := by
  obtain ⟨u, hu, h⟩ := andThen_next h
  obtain ⟨rfl, hf⟩ := checkFlags_next h
  exact ⟨hu, hf⟩

theorem runTicks_next {s t : State} (h : runTicks s = .next t) : ticks s.cycles s = .ok t := by
  unfold runTicks at h
  split at h
  · cases h; assumption
  · cases h

/-- The three paths of the CPU step (60_exceptions.md R450). -/
theorem cpuStep_next {s t : State} (h : cpuStep s = .next t) :
    (∃ src, takenIrq s = some src ∧ dispatchIrq src s = .next t) ∨
    (takenIrq s = none ∧ s.cpu.halted = true ∧ idleStep s = .next t) ∨
    (takenIrq s = none ∧ s.cpu.halted = false ∧ ∃ i, fetch s = .ok i ∧
      exec i (s.setPc (s.cpu.pc + BitVec.ofNat 16 i.length)) = .next t ∧ t.cpu.f &&& 0x0F = 0) := by
  unfold cpuStep at h
  split at h
  · exact .inl ⟨_, ‹_›, h⟩
  · split at h
    · exact .inr (.inl ⟨‹_›, ‹_›, h⟩)
    · split at h
      · cases h
      · exact .inr (.inr ⟨‹_›, by simp_all, _, ‹_›, runInstr_next h⟩)

/-- A halted step clears at most `halted` and returns 4 cycles (60_exceptions.md R454, R456). -/
theorem idleStep_next {s t : State} (h : idleStep s = .next t) :
    ∃ b, t = { s.setHalted b with cycles := 4 } := by
  unfold idleStep at h
  split at h
  · exact ⟨false, finish_next h⟩
  · exact ⟨s.cpu.halted, finish_next h⟩

/-- What changes of the CPU registers, changes of IF and bus writes keep, a CPU step keeps. -/
theorem cpuStep_keep {P : State → Prop} (hc : ∀ s t, P s → SameOutsideCpu s t → P t) (hi : ∀ s v, P s → P {s with irq := v})
    (hw : ∀ a v s t, P s → busWrite a v s = .ok t → P t) {s t} (h : cpuStep s = .next t) (hs : P s) : P t := by
  obtain ⟨src, hx, h⟩ | ⟨-, -, h⟩ | ⟨-, -, i, hi, h, -⟩ := cpuStep_next h
  · obtain ⟨u, hu, rfl⟩ := dispatchIrq_next h
    refine hc u _ ?_ (by exact rfl)
    exact StoredAt.keep hc hw (hi _ _ (hc s _ hs (by exact rfl))) (State.pushed_stored hu)
  · obtain ⟨b, rfl⟩ := idleStep_next h
    exact hc _ _ hs (by exact rfl)
  · exact StoredAt.keep hc hw (hc _ _ hs (by exact rfl)) (exec_stored h)

/-- A step is one CPU step and then the ticks of its cycles (60_exceptions.md R580). -/
theorem step_next {s t : State} (h : step s = .next t) : ∃ u, cpuStep s = .next u ∧ ticks u.cycles u = .ok t := by
  obtain ⟨u, hu, h⟩ := andThen_next h
  exact ⟨u, hu, runTicks_next h⟩

/-- A step whose CPU step answers `u` is the ticks of `u`. -/
theorem step_eq_of_cpuStep {s u : State} (h : cpuStep s = .next u) : step s = runTicks u := by
  unfold step loopTurn Exec.andThen; rw [h]

/-- The fetch of an instruction whose bytes stand at PC (30_encoding.md R162). -/
theorem fetchBytes_ok {s : State} : ∀ {n : Nat} {a : Word} {bs : List Byte}, bs.length = n →
    (∀ k, (h : k < bs.length) → s.peek (a + BitVec.ofNat 16 k) = some bs[k]) → fetchBytes n a s = .ok bs
  | 0, a, [], _, _ => rfl
  | n + 1, a, b :: bs, hl, hb => by
    have h0 := hb 0 (by simp)
    have ha : a + BitVec.ofNat 16 0 = a := by simp
    rw [ha, State.peek_eq_some] at h0
    have hr : fetchBytes n (a + 1) s = .ok bs := by
      refine fetchBytes_ok (by simpa using hl) fun k hk => ?_
      have := hb (k + 1) (by simpa using hk)
      rw [show a + 1 + BitVec.ofNat 16 k = a + BitVec.ofNat 16 (k + 1) from ?_]
      · exact this
      · rw [BitVec.add_assoc]; congr 1; apply BitVec.eq_of_toNat_eq; simp [Nat.add_comm]
    unfold fetchBytes
    simp only [h0, hr]
    rfl

end Sys2Proof.Machine
end

