-- ==== Sys2Proof/Tests/Slice0.lean ====
section
/-! SUPPORT. The package's own tests: the well-formedness smoke, the decoding of every row of the opcode maps, single instructions of
spec/95_test_vectors.md, and for every statement with hypotheses a state that meets them. -/

namespace Sys2Proof.Tests

open Sys2Proof.Machine

/-! ### Well-formedness -/

/-- The one ill-formed term, whatever its byte: the prefix row, which is no instruction of its own (30_encoding.md R163). -/
theorem test_illformed_prefix : (Instr.prefixCb 0x11).wellFormed = false := by decide

theorem test_wellformed_terms :
    Instr.nop.wellFormed = true ∧ (Instr.ldBcImm16 0xFFFF).wellFormed = true ∧ (Instr.stop 0x00).wellFormed = true ∧
      Instr.illegalD3.wellFormed = true ∧ Instr.rlC.wellFormed = true := by decide

/-! ### Decoding

Every cell of the two opcode maps, its bytes written out: operand bytes 0xA5, word operands 0x1234 (low byte first). -/

/-- Row 0x00 of the first-byte map R159. -/
theorem test_decode_row_0x : [[0x00], [0x01, 0x34, 0x12], [0x02], [0x03], [0x04], [0x05], [0x06, 0xA5], [0x07], [0x08, 0x34, 0x12], [0x09], [0x0A],
    [0x0B], [0x0C], [0x0D], [0x0E, 0xA5], [0x0F]].map decode =
    [.ok (.nop, []), .ok (.ldBcImm16 0x1234, []), .ok (.ldMBcA, []), .ok (.incBc, []), .ok (.incB, []), .ok (.decB, []),
    .ok (.ldBImm8 0xA5, []), .ok (.rlca, []), .ok (.ldMImm16Sp 0x1234, []), .ok (.addHlBc, []), .ok (.ldAMBc, []),
    .ok (.decBc, []), .ok (.incC, []), .ok (.decC, []), .ok (.ldCImm8 0xA5, []), .ok (.rrca, [])] := rfl

/-- Row 0x10 of the first-byte map R159. -/
theorem test_decode_row_1x : [[0x10, 0xA5], [0x11, 0x34, 0x12], [0x12], [0x13], [0x14], [0x15], [0x16, 0xA5], [0x17], [0x18, 0xA5], [0x19], [0x1A],
    [0x1B], [0x1C], [0x1D], [0x1E, 0xA5], [0x1F]].map decode =
    [.ok (.stop 0xA5, []), .ok (.ldDeImm16 0x1234, []), .ok (.ldMDeA, []), .ok (.incDe, []), .ok (.incD, []),
    .ok (.decD, []), .ok (.ldDImm8 0xA5, []), .ok (.rla, []), .ok (.jrRel 0xA5, []), .ok (.addHlDe, []), .ok (.ldAMDe, []),
    .ok (.decDe, []), .ok (.incE, []), .ok (.decE, []), .ok (.ldEImm8 0xA5, []), .ok (.rra, [])] := rfl

/-- Row 0x20 of the first-byte map R159. -/
theorem test_decode_row_2x : [[0x20, 0xA5], [0x21, 0x34, 0x12], [0x22], [0x23], [0x24], [0x25], [0x26, 0xA5], [0x27], [0x28, 0xA5], [0x29], [0x2A],
    [0x2B], [0x2C], [0x2D], [0x2E, 0xA5], [0x2F]].map decode =
    [.ok (.jrNzRel 0xA5, []), .ok (.ldHlImm16 0x1234, []), .ok (.ldMHlIncA, []), .ok (.incHl, []), .ok (.incH, []),
    .ok (.decH, []), .ok (.ldHImm8 0xA5, []), .ok (.daa, []), .ok (.jrZRel 0xA5, []), .ok (.addHlHl, []),
    .ok (.ldAMHlInc, []), .ok (.decHl, []), .ok (.incL, []), .ok (.decL, []), .ok (.ldLImm8 0xA5, []), .ok (.cpl, [])] := rfl

/-- Row 0x30 of the first-byte map R159. -/
theorem test_decode_row_3x : [[0x30, 0xA5], [0x31, 0x34, 0x12], [0x32], [0x33], [0x34], [0x35], [0x36, 0xA5], [0x37], [0x38, 0xA5], [0x39], [0x3A],
    [0x3B], [0x3C], [0x3D], [0x3E, 0xA5], [0x3F]].map decode =
    [.ok (.jrNcRel 0xA5, []), .ok (.ldSpImm16 0x1234, []), .ok (.ldMHlDecA, []), .ok (.incSp, []), .ok (.incMHl, []),
    .ok (.decMHl, []), .ok (.ldMHlImm8 0xA5, []), .ok (.scf, []), .ok (.jrCRel 0xA5, []), .ok (.addHlSp, []),
    .ok (.ldAMHlDec, []), .ok (.decSp, []), .ok (.incA, []), .ok (.decA, []), .ok (.ldAImm8 0xA5, []), .ok (.ccf, [])] := rfl

/-- Row 0x40 of the first-byte map R159. -/
theorem test_decode_row_4x : [[0x40], [0x41], [0x42], [0x43], [0x44], [0x45], [0x46], [0x47], [0x48], [0x49], [0x4A], [0x4B], [0x4C], [0x4D], [0x4E],
    [0x4F]].map decode =
    [.ok (.ldBB, []), .ok (.ldBC, []), .ok (.ldBD, []), .ok (.ldBE, []), .ok (.ldBH, []), .ok (.ldBL, []), .ok (.ldBMHl, []),
    .ok (.ldBA, []), .ok (.ldCB, []), .ok (.ldCC, []), .ok (.ldCD, []), .ok (.ldCE, []), .ok (.ldCH, []), .ok (.ldCL, []),
    .ok (.ldCMHl, []), .ok (.ldCA, [])] := rfl

/-- Row 0x50 of the first-byte map R159. -/
theorem test_decode_row_5x : [[0x50], [0x51], [0x52], [0x53], [0x54], [0x55], [0x56], [0x57], [0x58], [0x59], [0x5A], [0x5B], [0x5C], [0x5D], [0x5E],
    [0x5F]].map decode =
    [.ok (.ldDB, []), .ok (.ldDC, []), .ok (.ldDD, []), .ok (.ldDE, []), .ok (.ldDH, []), .ok (.ldDL, []), .ok (.ldDMHl, []),
    .ok (.ldDA, []), .ok (.ldEB, []), .ok (.ldEC, []), .ok (.ldED, []), .ok (.ldEE, []), .ok (.ldEH, []), .ok (.ldEL, []),
    .ok (.ldEMHl, []), .ok (.ldEA, [])] := rfl

/-- Row 0x60 of the first-byte map R159. -/
theorem test_decode_row_6x : [[0x60], [0x61], [0x62], [0x63], [0x64], [0x65], [0x66], [0x67], [0x68], [0x69], [0x6A], [0x6B], [0x6C], [0x6D], [0x6E],
    [0x6F]].map decode =
    [.ok (.ldHB, []), .ok (.ldHC, []), .ok (.ldHD, []), .ok (.ldHE, []), .ok (.ldHH, []), .ok (.ldHL, []), .ok (.ldHMHl, []),
    .ok (.ldHA, []), .ok (.ldLB, []), .ok (.ldLC, []), .ok (.ldLD, []), .ok (.ldLE, []), .ok (.ldLH, []), .ok (.ldLL, []),
    .ok (.ldLMHl, []), .ok (.ldLA, [])] := rfl

/-- Row 0x70 of the first-byte map R159. -/
theorem test_decode_row_7x : [[0x70], [0x71], [0x72], [0x73], [0x74], [0x75], [0x76], [0x77], [0x78], [0x79], [0x7A], [0x7B], [0x7C], [0x7D], [0x7E],
    [0x7F]].map decode =
    [.ok (.ldMHlB, []), .ok (.ldMHlC, []), .ok (.ldMHlD, []), .ok (.ldMHlE, []), .ok (.ldMHlH, []), .ok (.ldMHlL, []),
    .ok (.halt, []), .ok (.ldMHlA, []), .ok (.ldAB, []), .ok (.ldAC, []), .ok (.ldAD, []), .ok (.ldAE, []), .ok (.ldAH, []),
    .ok (.ldAL, []), .ok (.ldAMHl, []), .ok (.ldAA, [])] := rfl

/-- Row 0x80 of the first-byte map R159. -/
theorem test_decode_row_8x : [[0x80], [0x81], [0x82], [0x83], [0x84], [0x85], [0x86], [0x87], [0x88], [0x89], [0x8A], [0x8B], [0x8C], [0x8D], [0x8E],
    [0x8F]].map decode =
    [.ok (.addAB, []), .ok (.addAC, []), .ok (.addAD, []), .ok (.addAE, []), .ok (.addAH, []), .ok (.addAL, []),
    .ok (.addAMHl, []), .ok (.addAA, []), .ok (.adcAB, []), .ok (.adcAC, []), .ok (.adcAD, []), .ok (.adcAE, []),
    .ok (.adcAH, []), .ok (.adcAL, []), .ok (.adcAMHl, []), .ok (.adcAA, [])] := rfl

/-- Row 0x90 of the first-byte map R159. -/
theorem test_decode_row_9x : [[0x90], [0x91], [0x92], [0x93], [0x94], [0x95], [0x96], [0x97], [0x98], [0x99], [0x9A], [0x9B], [0x9C], [0x9D], [0x9E],
    [0x9F]].map decode =
    [.ok (.subB, []), .ok (.subC, []), .ok (.subD, []), .ok (.subE, []), .ok (.subH, []), .ok (.subL, []), .ok (.subMHl, []),
    .ok (.subA, []), .ok (.sbcAB, []), .ok (.sbcAC, []), .ok (.sbcAD, []), .ok (.sbcAE, []), .ok (.sbcAH, []),
    .ok (.sbcAL, []), .ok (.sbcAMHl, []), .ok (.sbcAA, [])] := rfl

/-- Row 0xA0 of the first-byte map R159. -/
theorem test_decode_row_Ax : [[0xA0], [0xA1], [0xA2], [0xA3], [0xA4], [0xA5], [0xA6], [0xA7], [0xA8], [0xA9], [0xAA], [0xAB], [0xAC], [0xAD], [0xAE],
    [0xAF]].map decode =
    [.ok (.andB, []), .ok (.andC, []), .ok (.andD, []), .ok (.andE, []), .ok (.andH, []), .ok (.andL, []), .ok (.andMHl, []),
    .ok (.andA, []), .ok (.xorB, []), .ok (.xorC, []), .ok (.xorD, []), .ok (.xorE, []), .ok (.xorH, []), .ok (.xorL, []),
    .ok (.xorMHl, []), .ok (.xorA, [])] := rfl

/-- Row 0xB0 of the first-byte map R159. -/
theorem test_decode_row_Bx : [[0xB0], [0xB1], [0xB2], [0xB3], [0xB4], [0xB5], [0xB6], [0xB7], [0xB8], [0xB9], [0xBA], [0xBB], [0xBC], [0xBD], [0xBE],
    [0xBF]].map decode =
    [.ok (.orB, []), .ok (.orC, []), .ok (.orD, []), .ok (.orE, []), .ok (.orH, []), .ok (.orL, []), .ok (.orMHl, []),
    .ok (.orA, []), .ok (.cpB, []), .ok (.cpC, []), .ok (.cpD, []), .ok (.cpE, []), .ok (.cpH, []), .ok (.cpL, []),
    .ok (.cpMHl, []), .ok (.cpA, [])] := rfl

/-- Row 0xC0 of the first-byte map R159. -/
theorem test_decode_row_Cx : [[0xC0], [0xC1], [0xC2, 0x34, 0x12], [0xC3, 0x34, 0x12], [0xC4, 0x34, 0x12], [0xC5], [0xC6, 0xA5], [0xC7], [0xC8],
    [0xC9], [0xCA, 0x34, 0x12], [0xCB, 0x11], [0xCC, 0x34, 0x12], [0xCD, 0x34, 0x12], [0xCE, 0xA5], [0xCF]].map decode =
    [.ok (.retNz, []), .ok (.popBc, []), .ok (.jpNzImm16 0x1234, []), .ok (.jpImm16 0x1234, []),
    .ok (.callNzImm16 0x1234, []), .ok (.pushBc, []), .ok (.addAImm8 0xA5, []), .ok (.rst00, []), .ok (.retZ, []),
    .ok (.ret, []), .ok (.jpZImm16 0x1234, []), .ok (.rlC, []), .ok (.callZImm16 0x1234, []), .ok (.callImm16 0x1234, []),
    .ok (.adcAImm8 0xA5, []), .ok (.rst08, [])] := rfl

/-- Row 0xD0 of the first-byte map R159. -/
theorem test_decode_row_Dx : [[0xD0], [0xD1], [0xD2, 0x34, 0x12], [0xD3], [0xD4, 0x34, 0x12], [0xD5], [0xD6, 0xA5], [0xD7], [0xD8], [0xD9],
    [0xDA, 0x34, 0x12], [0xDB], [0xDC, 0x34, 0x12], [0xDD], [0xDE, 0xA5], [0xDF]].map decode =
    [.ok (.retNc, []), .ok (.popDe, []), .ok (.jpNcImm16 0x1234, []), .ok (.illegalD3, []), .ok (.callNcImm16 0x1234, []),
    .ok (.pushDe, []), .ok (.subImm8 0xA5, []), .ok (.rst10, []), .ok (.retC, []), .ok (.reti, []),
    .ok (.jpCImm16 0x1234, []), .ok (.illegalDB, []), .ok (.callCImm16 0x1234, []), .ok (.illegalDD, []),
    .ok (.sbcAImm8 0xA5, []), .ok (.rst18, [])] := rfl

/-- Row 0xE0 of the first-byte map R159. -/
theorem test_decode_row_Ex : [[0xE0, 0xA5], [0xE1], [0xE2], [0xE3], [0xE4], [0xE5], [0xE6, 0xA5], [0xE7], [0xE8, 0xA5], [0xE9], [0xEA, 0x34, 0x12],
    [0xEB], [0xEC], [0xED], [0xEE, 0xA5], [0xEF]].map decode =
    [.ok (.ldhMNA 0xA5, []), .ok (.popHl, []), .ok (.ldMCA, []), .ok (.illegalE3, []), .ok (.illegalE4, []),
    .ok (.pushHl, []), .ok (.andImm8 0xA5, []), .ok (.rst20, []), .ok (.addSpRel 0xA5, []), .ok (.jpHl, []),
    .ok (.ldMImm16A 0x1234, []), .ok (.illegalEB, []), .ok (.illegalEC, []), .ok (.illegalED, []), .ok (.xorImm8 0xA5, []),
    .ok (.rst28, [])] := rfl

/-- Row 0xF0 of the first-byte map R159. -/
theorem test_decode_row_Fx : [[0xF0, 0xA5], [0xF1], [0xF2], [0xF3], [0xF4], [0xF5], [0xF6, 0xA5], [0xF7], [0xF8, 0xA5], [0xF9], [0xFA, 0x34, 0x12],
    [0xFB], [0xFC], [0xFD], [0xFE, 0xA5], [0xFF]].map decode =
    [.ok (.ldhAMN 0xA5, []), .ok (.popAf, []), .ok (.ldAMC, []), .ok (.di, []), .ok (.illegalF4, []), .ok (.pushAf, []),
    .ok (.orImm8 0xA5, []), .ok (.rst30, []), .ok (.ldHlSpRel 0xA5, []), .ok (.ldSpHl, []), .ok (.ldAMImm16 0x1234, []),
    .ok (.ei, []), .ok (.illegalFC, []), .ok (.illegalFD, []), .ok (.cpImm8 0xA5, []), .ok (.rst38, [])] := rfl

/-- Row 0x00 of the CB map R161. -/
theorem test_decode_cb_row_0x : [[0xCB, 0x00], [0xCB, 0x01], [0xCB, 0x02], [0xCB, 0x03], [0xCB, 0x04], [0xCB, 0x05], [0xCB, 0x06], [0xCB, 0x07],
    [0xCB, 0x08], [0xCB, 0x09], [0xCB, 0x0A], [0xCB, 0x0B], [0xCB, 0x0C], [0xCB, 0x0D], [0xCB, 0x0E], [0xCB, 0x0F]].map decode =
    [.ok (.rlcB, []), .ok (.rlcC, []), .ok (.rlcD, []), .ok (.rlcE, []), .ok (.rlcH, []), .ok (.rlcL, []), .ok (.rlcMHl, []),
    .ok (.rlcA, []), .ok (.rrcB, []), .ok (.rrcC, []), .ok (.rrcD, []), .ok (.rrcE, []), .ok (.rrcH, []), .ok (.rrcL, []),
    .ok (.rrcMHl, []), .ok (.rrcA, [])] := rfl

/-- Row 0x10 of the CB map R161. -/
theorem test_decode_cb_row_1x : [[0xCB, 0x10], [0xCB, 0x11], [0xCB, 0x12], [0xCB, 0x13], [0xCB, 0x14], [0xCB, 0x15], [0xCB, 0x16], [0xCB, 0x17],
    [0xCB, 0x18], [0xCB, 0x19], [0xCB, 0x1A], [0xCB, 0x1B], [0xCB, 0x1C], [0xCB, 0x1D], [0xCB, 0x1E], [0xCB, 0x1F]].map decode =
    [.ok (.rlB, []), .ok (.rlC, []), .ok (.rlD, []), .ok (.rlE, []), .ok (.rlH, []), .ok (.rlL, []), .ok (.rlMHl, []),
    .ok (.rlA, []), .ok (.rrB, []), .ok (.rrC, []), .ok (.rrD, []), .ok (.rrE, []), .ok (.rrH, []), .ok (.rrL, []),
    .ok (.rrMHl, []), .ok (.rrA, [])] := rfl

/-- Row 0x20 of the CB map R161. -/
theorem test_decode_cb_row_2x : [[0xCB, 0x20], [0xCB, 0x21], [0xCB, 0x22], [0xCB, 0x23], [0xCB, 0x24], [0xCB, 0x25], [0xCB, 0x26], [0xCB, 0x27],
    [0xCB, 0x28], [0xCB, 0x29], [0xCB, 0x2A], [0xCB, 0x2B], [0xCB, 0x2C], [0xCB, 0x2D], [0xCB, 0x2E], [0xCB, 0x2F]].map decode =
    [.ok (.slaB, []), .ok (.slaC, []), .ok (.slaD, []), .ok (.slaE, []), .ok (.slaH, []), .ok (.slaL, []), .ok (.slaMHl, []),
    .ok (.slaA, []), .ok (.sraB, []), .ok (.sraC, []), .ok (.sraD, []), .ok (.sraE, []), .ok (.sraH, []), .ok (.sraL, []),
    .ok (.sraMHl, []), .ok (.sraA, [])] := rfl

/-- Row 0x30 of the CB map R161. -/
theorem test_decode_cb_row_3x : [[0xCB, 0x30], [0xCB, 0x31], [0xCB, 0x32], [0xCB, 0x33], [0xCB, 0x34], [0xCB, 0x35], [0xCB, 0x36], [0xCB, 0x37],
    [0xCB, 0x38], [0xCB, 0x39], [0xCB, 0x3A], [0xCB, 0x3B], [0xCB, 0x3C], [0xCB, 0x3D], [0xCB, 0x3E], [0xCB, 0x3F]].map decode =
    [.ok (.swapB, []), .ok (.swapC, []), .ok (.swapD, []), .ok (.swapE, []), .ok (.swapH, []), .ok (.swapL, []),
    .ok (.swapMHl, []), .ok (.swapA, []), .ok (.srlB, []), .ok (.srlC, []), .ok (.srlD, []), .ok (.srlE, []),
    .ok (.srlH, []), .ok (.srlL, []), .ok (.srlMHl, []), .ok (.srlA, [])] := rfl

/-- Row 0x40 of the CB map R161. -/
theorem test_decode_cb_row_4x : [[0xCB, 0x40], [0xCB, 0x41], [0xCB, 0x42], [0xCB, 0x43], [0xCB, 0x44], [0xCB, 0x45], [0xCB, 0x46], [0xCB, 0x47],
    [0xCB, 0x48], [0xCB, 0x49], [0xCB, 0x4A], [0xCB, 0x4B], [0xCB, 0x4C], [0xCB, 0x4D], [0xCB, 0x4E], [0xCB, 0x4F]].map decode =
    [.ok (.bit0B, []), .ok (.bit0C, []), .ok (.bit0D, []), .ok (.bit0E, []), .ok (.bit0H, []), .ok (.bit0L, []),
    .ok (.bit0MHl, []), .ok (.bit0A, []), .ok (.bit1B, []), .ok (.bit1C, []), .ok (.bit1D, []), .ok (.bit1E, []),
    .ok (.bit1H, []), .ok (.bit1L, []), .ok (.bit1MHl, []), .ok (.bit1A, [])] := rfl

/-- Row 0x50 of the CB map R161. -/
theorem test_decode_cb_row_5x : [[0xCB, 0x50], [0xCB, 0x51], [0xCB, 0x52], [0xCB, 0x53], [0xCB, 0x54], [0xCB, 0x55], [0xCB, 0x56], [0xCB, 0x57],
    [0xCB, 0x58], [0xCB, 0x59], [0xCB, 0x5A], [0xCB, 0x5B], [0xCB, 0x5C], [0xCB, 0x5D], [0xCB, 0x5E], [0xCB, 0x5F]].map decode =
    [.ok (.bit2B, []), .ok (.bit2C, []), .ok (.bit2D, []), .ok (.bit2E, []), .ok (.bit2H, []), .ok (.bit2L, []),
    .ok (.bit2MHl, []), .ok (.bit2A, []), .ok (.bit3B, []), .ok (.bit3C, []), .ok (.bit3D, []), .ok (.bit3E, []),
    .ok (.bit3H, []), .ok (.bit3L, []), .ok (.bit3MHl, []), .ok (.bit3A, [])] := rfl

/-- Row 0x60 of the CB map R161. -/
theorem test_decode_cb_row_6x : [[0xCB, 0x60], [0xCB, 0x61], [0xCB, 0x62], [0xCB, 0x63], [0xCB, 0x64], [0xCB, 0x65], [0xCB, 0x66], [0xCB, 0x67],
    [0xCB, 0x68], [0xCB, 0x69], [0xCB, 0x6A], [0xCB, 0x6B], [0xCB, 0x6C], [0xCB, 0x6D], [0xCB, 0x6E], [0xCB, 0x6F]].map decode =
    [.ok (.bit4B, []), .ok (.bit4C, []), .ok (.bit4D, []), .ok (.bit4E, []), .ok (.bit4H, []), .ok (.bit4L, []),
    .ok (.bit4MHl, []), .ok (.bit4A, []), .ok (.bit5B, []), .ok (.bit5C, []), .ok (.bit5D, []), .ok (.bit5E, []),
    .ok (.bit5H, []), .ok (.bit5L, []), .ok (.bit5MHl, []), .ok (.bit5A, [])] := rfl

/-- Row 0x70 of the CB map R161. -/
theorem test_decode_cb_row_7x : [[0xCB, 0x70], [0xCB, 0x71], [0xCB, 0x72], [0xCB, 0x73], [0xCB, 0x74], [0xCB, 0x75], [0xCB, 0x76], [0xCB, 0x77],
    [0xCB, 0x78], [0xCB, 0x79], [0xCB, 0x7A], [0xCB, 0x7B], [0xCB, 0x7C], [0xCB, 0x7D], [0xCB, 0x7E], [0xCB, 0x7F]].map decode =
    [.ok (.bit6B, []), .ok (.bit6C, []), .ok (.bit6D, []), .ok (.bit6E, []), .ok (.bit6H, []), .ok (.bit6L, []),
    .ok (.bit6MHl, []), .ok (.bit6A, []), .ok (.bit7B, []), .ok (.bit7C, []), .ok (.bit7D, []), .ok (.bit7E, []),
    .ok (.bit7H, []), .ok (.bit7L, []), .ok (.bit7MHl, []), .ok (.bit7A, [])] := rfl

/-- Row 0x80 of the CB map R161. -/
theorem test_decode_cb_row_8x : [[0xCB, 0x80], [0xCB, 0x81], [0xCB, 0x82], [0xCB, 0x83], [0xCB, 0x84], [0xCB, 0x85], [0xCB, 0x86], [0xCB, 0x87],
    [0xCB, 0x88], [0xCB, 0x89], [0xCB, 0x8A], [0xCB, 0x8B], [0xCB, 0x8C], [0xCB, 0x8D], [0xCB, 0x8E], [0xCB, 0x8F]].map decode =
    [.ok (.res0B, []), .ok (.res0C, []), .ok (.res0D, []), .ok (.res0E, []), .ok (.res0H, []), .ok (.res0L, []),
    .ok (.res0MHl, []), .ok (.res0A, []), .ok (.res1B, []), .ok (.res1C, []), .ok (.res1D, []), .ok (.res1E, []),
    .ok (.res1H, []), .ok (.res1L, []), .ok (.res1MHl, []), .ok (.res1A, [])] := rfl

/-- Row 0x90 of the CB map R161. -/
theorem test_decode_cb_row_9x : [[0xCB, 0x90], [0xCB, 0x91], [0xCB, 0x92], [0xCB, 0x93], [0xCB, 0x94], [0xCB, 0x95], [0xCB, 0x96], [0xCB, 0x97],
    [0xCB, 0x98], [0xCB, 0x99], [0xCB, 0x9A], [0xCB, 0x9B], [0xCB, 0x9C], [0xCB, 0x9D], [0xCB, 0x9E], [0xCB, 0x9F]].map decode =
    [.ok (.res2B, []), .ok (.res2C, []), .ok (.res2D, []), .ok (.res2E, []), .ok (.res2H, []), .ok (.res2L, []),
    .ok (.res2MHl, []), .ok (.res2A, []), .ok (.res3B, []), .ok (.res3C, []), .ok (.res3D, []), .ok (.res3E, []),
    .ok (.res3H, []), .ok (.res3L, []), .ok (.res3MHl, []), .ok (.res3A, [])] := rfl

/-- Row 0xA0 of the CB map R161. -/
theorem test_decode_cb_row_Ax : [[0xCB, 0xA0], [0xCB, 0xA1], [0xCB, 0xA2], [0xCB, 0xA3], [0xCB, 0xA4], [0xCB, 0xA5], [0xCB, 0xA6], [0xCB, 0xA7],
    [0xCB, 0xA8], [0xCB, 0xA9], [0xCB, 0xAA], [0xCB, 0xAB], [0xCB, 0xAC], [0xCB, 0xAD], [0xCB, 0xAE], [0xCB, 0xAF]].map decode =
    [.ok (.res4B, []), .ok (.res4C, []), .ok (.res4D, []), .ok (.res4E, []), .ok (.res4H, []), .ok (.res4L, []),
    .ok (.res4MHl, []), .ok (.res4A, []), .ok (.res5B, []), .ok (.res5C, []), .ok (.res5D, []), .ok (.res5E, []),
    .ok (.res5H, []), .ok (.res5L, []), .ok (.res5MHl, []), .ok (.res5A, [])] := rfl

/-- Row 0xB0 of the CB map R161. -/
theorem test_decode_cb_row_Bx : [[0xCB, 0xB0], [0xCB, 0xB1], [0xCB, 0xB2], [0xCB, 0xB3], [0xCB, 0xB4], [0xCB, 0xB5], [0xCB, 0xB6], [0xCB, 0xB7],
    [0xCB, 0xB8], [0xCB, 0xB9], [0xCB, 0xBA], [0xCB, 0xBB], [0xCB, 0xBC], [0xCB, 0xBD], [0xCB, 0xBE], [0xCB, 0xBF]].map decode =
    [.ok (.res6B, []), .ok (.res6C, []), .ok (.res6D, []), .ok (.res6E, []), .ok (.res6H, []), .ok (.res6L, []),
    .ok (.res6MHl, []), .ok (.res6A, []), .ok (.res7B, []), .ok (.res7C, []), .ok (.res7D, []), .ok (.res7E, []),
    .ok (.res7H, []), .ok (.res7L, []), .ok (.res7MHl, []), .ok (.res7A, [])] := rfl

/-- Row 0xC0 of the CB map R161. -/
theorem test_decode_cb_row_Cx : [[0xCB, 0xC0], [0xCB, 0xC1], [0xCB, 0xC2], [0xCB, 0xC3], [0xCB, 0xC4], [0xCB, 0xC5], [0xCB, 0xC6], [0xCB, 0xC7],
    [0xCB, 0xC8], [0xCB, 0xC9], [0xCB, 0xCA], [0xCB, 0xCB], [0xCB, 0xCC], [0xCB, 0xCD], [0xCB, 0xCE], [0xCB, 0xCF]].map decode =
    [.ok (.set0B, []), .ok (.set0C, []), .ok (.set0D, []), .ok (.set0E, []), .ok (.set0H, []), .ok (.set0L, []),
    .ok (.set0MHl, []), .ok (.set0A, []), .ok (.set1B, []), .ok (.set1C, []), .ok (.set1D, []), .ok (.set1E, []),
    .ok (.set1H, []), .ok (.set1L, []), .ok (.set1MHl, []), .ok (.set1A, [])] := rfl

/-- Row 0xD0 of the CB map R161. -/
theorem test_decode_cb_row_Dx : [[0xCB, 0xD0], [0xCB, 0xD1], [0xCB, 0xD2], [0xCB, 0xD3], [0xCB, 0xD4], [0xCB, 0xD5], [0xCB, 0xD6], [0xCB, 0xD7],
    [0xCB, 0xD8], [0xCB, 0xD9], [0xCB, 0xDA], [0xCB, 0xDB], [0xCB, 0xDC], [0xCB, 0xDD], [0xCB, 0xDE], [0xCB, 0xDF]].map decode =
    [.ok (.set2B, []), .ok (.set2C, []), .ok (.set2D, []), .ok (.set2E, []), .ok (.set2H, []), .ok (.set2L, []),
    .ok (.set2MHl, []), .ok (.set2A, []), .ok (.set3B, []), .ok (.set3C, []), .ok (.set3D, []), .ok (.set3E, []),
    .ok (.set3H, []), .ok (.set3L, []), .ok (.set3MHl, []), .ok (.set3A, [])] := rfl

/-- Row 0xE0 of the CB map R161. -/
theorem test_decode_cb_row_Ex : [[0xCB, 0xE0], [0xCB, 0xE1], [0xCB, 0xE2], [0xCB, 0xE3], [0xCB, 0xE4], [0xCB, 0xE5], [0xCB, 0xE6], [0xCB, 0xE7],
    [0xCB, 0xE8], [0xCB, 0xE9], [0xCB, 0xEA], [0xCB, 0xEB], [0xCB, 0xEC], [0xCB, 0xED], [0xCB, 0xEE], [0xCB, 0xEF]].map decode =
    [.ok (.set4B, []), .ok (.set4C, []), .ok (.set4D, []), .ok (.set4E, []), .ok (.set4H, []), .ok (.set4L, []),
    .ok (.set4MHl, []), .ok (.set4A, []), .ok (.set5B, []), .ok (.set5C, []), .ok (.set5D, []), .ok (.set5E, []),
    .ok (.set5H, []), .ok (.set5L, []), .ok (.set5MHl, []), .ok (.set5A, [])] := rfl

/-- Row 0xF0 of the CB map R161. -/
theorem test_decode_cb_row_Fx : [[0xCB, 0xF0], [0xCB, 0xF1], [0xCB, 0xF2], [0xCB, 0xF3], [0xCB, 0xF4], [0xCB, 0xF5], [0xCB, 0xF6], [0xCB, 0xF7],
    [0xCB, 0xF8], [0xCB, 0xF9], [0xCB, 0xFA], [0xCB, 0xFB], [0xCB, 0xFC], [0xCB, 0xFD], [0xCB, 0xFE], [0xCB, 0xFF]].map decode =
    [.ok (.set6B, []), .ok (.set6C, []), .ok (.set6D, []), .ok (.set6E, []), .ok (.set6H, []), .ok (.set6L, []),
    .ok (.set6MHl, []), .ok (.set6A, []), .ok (.set7B, []), .ok (.set7C, []), .ok (.set7D, []), .ok (.set7E, []),
    .ok (.set7H, []), .ok (.set7L, []), .ok (.set7MHl, []), .ok (.set7A, [])] := rfl

/-- The numbering of spec/opcode_table.json: a CB row with 0xCB in the high byte, any other row with its first byte lowest. -/
theorem test_table_words :
    decodeTableWord 8 0x41 = some .ldBC ∧ decodeTableWord 16 0xCB7C = some .bit7H ∧
      decodeTableWord 24 0x123401 = some (.ldBcImm16 0x1234) ∧ decodeTableWord 8 0x06 = some (.ldBImm8 0) := by decide

/-- A missing operand byte is refused by name. -/
theorem test_decode_short : (decode [] matches .error .noBytes) = true ∧ (decode [0x06] matches .error (.missingOperand 0x06 2)) = true ∧
    (decode [0xC3, 0x00] matches .error (.missingOperand 0xC3 3)) = true := by decide

/-! ### One instruction

Expected results are those of spec/95_test_vectors.md, in its common start state with work RAM code at 0xC000. -/

/-- The common start state of spec/95_test_vectors.md, with the CPU registers given. -/
def start (cpu : Cpu) : State :=
  { State.reset with
    cpu := cpu
    irq := { ie := 0, iflag := 0 }
    ppu := { Ppu.postBoot with lcdc := 0, dma := 0, bgp := 0, obp0 := 0, obp1 := 0 } }

/-- The common start state's CPU at PC 0xC000. -/
def cpu0 : Cpu :=
  { a := 0, f := 0, b := 0, c := 0, d := 0, e := 0, h := 0, l := 0, sp := 0xFFFE, pc := 0xC000, ime := false, halted := false }

/-- The common start state with bytes of work RAM from 0xC000 on. -/
def code (bs : List Byte) (cpu : Cpu) : State := { start cpu with wram := Memory.ofBytes bs }

/-- A property of the state a CPU step answers. -/
def After (s : State) (p : State → Bool) : Bool :=
  match cpuStep s with
  | .next t => p t
  | .fault _ => false
  | .refused _ => false

/-- The CPU registers after one CPU step. -/
def cpuAfter (s : State) : Option Cpu :=
  match cpuStep s with
  | .next t => some t.cpu
  | .fault f => some f.left.cpu
  | .refused _ => none

/-- V1.4, V1.17. -/
theorem test_store_b : After (code [0x70] { cpu0 with b := 0x12, h := 0xC1 }) (fun t => t.peek 0xC100 = some 0x12 ∧ t.cycles = 8) := by
  decide

theorem test_store_inc_wraps : After (code [0x22] { cpu0 with a := 0x05, h := 0xFF, l := 0xFF })
    (fun t => t.cpu.h = 0 ∧ t.cpu.l = 0 ∧ t.irq.ie = 0x05) := by decide

/-- V1.21: the fault, with PC past the instruction. -/
theorem test_store_unmapped : cpuAfter (code [0x77] { cpu0 with a := 1, h := 0x40 }) =
    some { cpu0 with a := 1, h := 0x40, pc := 0xC001 } := by decide

/-- V2.3. -/
theorem test_store_sp : After (code [0x08, 0x00, 0xC1] { cpu0 with sp := 0xABCD })
    (fun t => t.peek 0xC100 = some 0xCD ∧ t.peek 0xC101 = some 0xAB ∧ t.cycles = 20) := by decide

/-- V2.8, the masking of POP AF. -/
theorem test_pop_af : cpuAfter { code [0xF1] { cpu0 with sp := 0xCFFE } with wram := [(0, 0xF1), (0xFFE, 0xFF), (0xFFF, 0xFF)] } =
    some { cpu0 with a := 0xFF, f := 0xF0, sp := 0xD000, pc := 0xC001 } := by decide

/-- V2.10: SP has been decremented once when the fault is raised. -/
theorem test_push_fault : cpuAfter (code [0xC5] { cpu0 with b := 0x12, c := 0x34, sp := 0xC000 }) =
    some { cpu0 with b := 0x12, c := 0x34, sp := 0xBFFF, pc := 0xC001 } := by decide

/-- V2.11, V2.12. -/
theorem test_ld_hl_sp_carries : cpuAfter (code [0xF8, 0x08] { cpu0 with sp := 0xFFF8 }) =
    some { cpu0 with f := 0x30, sp := 0xFFF8, pc := 0xC002 } := by decide

theorem test_ld_hl_sp_negative : cpuAfter (code [0xF8, 0x80] { cpu0 with sp := 0xD000 }) =
    some { cpu0 with h := 0xCF, l := 0x80, sp := 0xD000, pc := 0xC002 } := by decide

/-- V3.5, V3.7. -/
theorem test_adc_carry_in : cpuAfter (code [0xCE, 0xFF] { cpu0 with f := 0x10 }) = some { cpu0 with f := 0xB0, pc := 0xC002 } := by
  decide

theorem test_adc_half_carry : cpuAfter (code [0x89] { cpu0 with a := 0x0E, c := 0x01, f := 0x10 }) =
    some { cpu0 with a := 0x10, c := 0x01, f := 0x20, pc := 0xC001 } := by decide

/-- V3.12, V3.14. -/
theorem test_sbc_self : cpuAfter (code [0x9F] { cpu0 with a := 0x42, f := 0x10 }) =
    some { cpu0 with a := 0xFF, f := 0x70, pc := 0xC001 } := by decide

theorem test_sbc_full : cpuAfter (code [0xDE, 0xFF] { cpu0 with f := 0x10 }) = some { cpu0 with f := 0xF0, pc := 0xC002 } := by
  decide

/-- V3.18: CP leaves A. -/
theorem test_cp_self : cpuAfter (code [0xBF] { cpu0 with a := 0x77 }) = some { cpu0 with a := 0x77, f := 0xC0, pc := 0xC001 } := by
  decide

/-- V3.21, V3.25: C kept. -/
theorem test_inc_wraps : cpuAfter (code [0x3C] { cpu0 with a := 0xFF, f := 0x10 }) = some { cpu0 with f := 0xB0, pc := 0xC001 } := by
  decide

theorem test_dec_zero : cpuAfter (code [0x05] { cpu0 with b := 0x01, f := 0x10 }) = some { cpu0 with f := 0xD0, pc := 0xC001 } := by
  decide

/-- The DAA table of L1.6: rows 0A/000, 9A/000 and FA/111. -/
theorem test_daa_add : cpuAfter (code [0x27] { cpu0 with a := 0x9A }) = some { cpu0 with f := 0x90, pc := 0xC001 } := by decide

theorem test_daa_sub : cpuAfter (code [0x27] { cpu0 with a := 0xFA, f := 0x70 }) =
    some { cpu0 with a := 0x94, f := 0x50, pc := 0xC001 } := by decide

/-- V4.3. -/
theorem test_add_hl_sp : cpuAfter (code [0x39] { cpu0 with l := 0x01, sp := 0xFFFF, f := 0x40 }) =
    some { cpu0 with sp := 0xFFFF, f := 0x30, pc := 0xC001 } := by decide

/-- V4.10. -/
theorem test_add_sp : cpuAfter (code [0xE8, 0x80] { cpu0 with sp := 0x0080, f := 0xF0 }) =
    some { cpu0 with sp := 0x0000, f := 0x10, pc := 0xC002 } := by decide

/-- V5.1, V5.11, V5.16. -/
theorem test_rlca_clears_z : cpuAfter (code [0x07] { cpu0 with f := 0x80 }) = some { cpu0 with pc := 0xC001 } := by decide

theorem test_rr_carry_in : cpuAfter (code [0xCB, 0x1B] { cpu0 with f := 0x10 }) = some { cpu0 with e := 0x80, pc := 0xC002 } := by
  decide

theorem test_swap : cpuAfter (code [0xCB, 0x37] { cpu0 with a := 0xF0, f := 0x70 }) =
    some { cpu0 with a := 0x0F, pc := 0xC002 } := by decide

/-- V6.1, V6.4. -/
theorem test_bit7_h : cpuAfter (code [0xCB, 0x7C] cpu0) = some { cpu0 with f := 0xA0, pc := 0xC002 } := by decide

theorem test_res7_a : cpuAfter (code [0xCB, 0xBF] { cpu0 with a := 0xFF, f := 0xF0 }) =
    some { cpu0 with a := 0x7F, f := 0xF0, pc := 0xC002 } := by decide

/-- V7.7, V7.15. -/
theorem test_jr_back : cpuAfter (code [0x18, 0x80] cpu0) = some { cpu0 with pc := 0xBF82 } := by decide

theorem test_call_wraps : After (code [0xCD, 0x00, 0xC2] { cpu0 with sp := 0x0000 })
    (fun t => t.cpu.sp = 0xFFFE ∧ t.cpu.pc = 0xC200 ∧ t.irq.ie = 0xC0 ∧ t.peek 0xFFFE = some 0x03) := by decide

/-- V7.19. -/
theorem test_reti : cpuAfter { code [0xD9] { cpu0 with sp := 0xCFFE } with wram := [(0, 0xD9), (0xFFE, 0x34), (0xFFF, 0xC1)] } =
    some { cpu0 with sp := 0xD000, pc := 0xC134, ime := true } := by decide

/-- V8.5: dispatch from a halted step. -/
theorem test_dispatch : After { code [0x76] { cpu0 with sp := 0xD000, ime := true, halted := true } with irq := { ie := 1, iflag := 1 } }
    (fun t => t.cpu = { cpu0 with sp := 0xCFFE, pc := 0x0040 } ∧ t.irq.iflag = 0 ∧ t.peek 0xCFFF = some 0xC0 ∧ t.cycles = 20) := by
  decide

/-- V8.12, V8.13. -/
theorem test_stop : cpuAfter (code [0x10, 0x00] cpu0) = some { cpu0 with pc := 0xC002 } := by decide

theorem test_gap : cpuAfter (code [0xD3] cpu0) = some { cpu0 with pc := 0xC001 } := by decide

/-! ### Devices and cartridge -/

/-- V10.1 (L1.10): reload and request in the same tick. -/
theorem test_timer_reload :
    (timerTick { start cpu0 with timer := { cnt := 0x000F, tima := 0xFF, tma := 0x40, tac := 0x05 } }).timer =
        { cnt := 0x0010, tima := 0x40, tma := 0x40, tac := 0x05 } ∧
      (timerTick { start cpu0 with timer := { cnt := 0x000F, tima := 0xFF, tma := 0x40, tac := 0x05 } }).irq.iflag = 0x04 := by
  decide

/-- V10.4: the timer off. -/
theorem test_timer_off :
    (timerTick { start cpu0 with timer := { cnt := 0x000F, tima := 0x10, tma := 0, tac := 0x01 } }).timer =
      { cnt := 0x0010, tima := 0x10, tma := 0, tac := 0x01 } := by decide

/-- V12.2 and V12.4: the colour of pixel (0, 0). -/
theorem test_pixel_unsigned :
    pixelColour { Ppu.postBoot with bgp := 0xE4, vram := [(0, 0xF0), (1, 0x0F)] } 0 0 = 1 := by decide

theorem test_pixel_signed :
    pixelColour { Ppu.postBoot with lcdc := 0x81, bgp := 0xE4, vram := [(0x800, 0xFF), (0x1800, 0x80)] } 0 0 = 1 := by decide

/-- V14.1, V14.9: bank 0 selects bank 1; the RAM gate looks at the low nibble. -/
theorem test_bank_select : (writeCartControl 0x2000 0x00 State.reset.cart).bank = 1 ∧
    (writeCartControl 0x3FFF 0xFF State.reset.cart).bank = 0xFF ∧
    (writeCartControl 0x1000 0xFA State.reset.cart).ramEnabled = true ∧
    (writeCartControl 0x1000 0x0B State.reset.cart).ramEnabled = false := by decide

/-- V8.9: the priority order. -/
theorem test_priority : pendingSource { ie := 0x1F, iflag := 0x1F } = some .vblank ∧
    pendingSource { ie := 0x10, iflag := 0x14 } = some .joypad ∧ pendingSource { ie := 0xE0, iflag := 0xE0 } = none := by decide

/-! ### Witnesses

For every statement with hypotheses, concrete states and operands that meet them, at the boundary values of its clauses. -/

/-- The common start state with SP and HL in work RAM. -/
def ramState : State := start { cpu0 with sp := 0xD000, h := 0xC1 }

/-- The same with SP and HL as given. -/
def spHl (sp : Word) (h l : Byte) : State := start { cpu0 with sp := sp, h := h, l := l }

/-- Whether an access answered. -/
def answered {α : Type} (x : Except Fault α) : Bool :=
  match x with
  | .ok _ => true
  | .error _ => false

theorem exists_ok {α : Type} {x : Except Fault α} (h : answered x = true) : ∃ t, x = .ok t := by
  cases x with
  | ok t => exact ⟨t, rfl⟩
  | error e => cases h

theorem exists_error {α : Type} {x : Except Fault α} (h : answered x = false) : ∃ e, x = .error e := by
  cases x with
  | ok t => cases h
  | error e => exact ⟨e, rfl⟩

/-- Whether an instruction or a step answered a next state. -/
def runs (x : Exec) : Bool :=
  match x with
  | .next _ => true
  | .fault _ => false
  | .refused _ => false

theorem exists_next {x : Exec} (h : runs x = true) : ∃ t, x = .next t := by
  cases x with
  | next t => exact ⟨t, rfl⟩
  | fault e => cases h
  | refused r => cases h

theorem witness_DecodeEncode : Instr.nop.wellFormed = true ∧ (Instr.ldBcImm16 0xFFFF).wellFormed = true ∧
    (Instr.jrRel 0x80).wellFormed = true ∧ Instr.set7A.wellFormed = true := by decide

theorem witness_EncodeDecode : decode [0x00, 0xFF] = .ok (.nop, [0xFF]) ∧ decode [0xCB, 0xFF] = .ok (.set7A, []) ∧
    decode [0xCB, 0x00, 0x01] = .ok (.rlcB, [0x01]) ∧ decode [0xFA, 0xFF, 0xFF] = .ok (.ldAMImm16 0xFFFF, []) :=
  ⟨rfl, rfl, rfl, rfl⟩

theorem witness_PrefixRow : (0x05 : Byte).extractLsb' 0 3 ≠ 6 ∧ (0x07 : Byte).extractLsb' 0 3 ≠ 6 ∧ plainRam ramState.hl :=
  ⟨by decide, by decide, .inr (.inl (by decide))⟩

theorem witness_StepRunsDecoded_next :
    let s := code [0x00] cpu0
    (s.cpu.ime = true → pendingSource s.irq = none) ∧ s.cpu.halted = false ∧ decode [0x00] = .ok (.nop, []) ∧ s.BytesAtPc [0x00] ∧
      ∃ t u, exec .nop (s.setPc (s.cpu.pc + BitVec.ofNat 16 [(0x00 : Byte)].length)) = .next t ∧ t.cpu.f &&& 0x0F = 0 ∧
        ticks t.cycles t = .ok u :=
  ⟨by decide, rfl, rfl, by unfold State.BytesAtPc; decide, _, _, rfl, rfl, rfl⟩

/-- The DMA engine faults in the ticks: its source is battery RAM that is not there. -/
theorem witness_StepRunsDecoded_ticks :
    let s := { code [0x00] cpu0 with ppu := { Ppu.postBoot with dmaState := some { source := 0xA000, offset := 0 } } }
    (s.cpu.ime = true → pendingSource s.irq = none) ∧ s.cpu.halted = false ∧ s.BytesAtPc [0x00] ∧
      ∃ t e, exec .nop (s.setPc (s.cpu.pc + BitVec.ofNat 16 [(0x00 : Byte)].length)) = .next t ∧ t.cpu.f &&& 0x0F = 0 ∧
        ticks t.cycles t = .error e :=
  ⟨by decide, rfl, by unfold State.BytesAtPc; decide, _, _, rfl, rfl, rfl⟩

theorem witness_StepRunsDecoded_flags :
    let s := code [0x00] { cpu0 with f := 0x01 }
    (s.cpu.ime = true → pendingSource s.irq = none) ∧ s.cpu.halted = false ∧ s.BytesAtPc [0x00] ∧
      ∃ t, exec .nop (s.setPc (s.cpu.pc + BitVec.ofNat 16 [(0x00 : Byte)].length)) = .next t ∧ t.cpu.f &&& 0x0F ≠ 0 :=
  ⟨by decide, rfl, by unfold State.BytesAtPc; decide, _, rfl, by decide⟩

theorem witness_StepRunsDecoded_fault :
    let s := code [0x10, 0x00] cpu0
    (s.cpu.ime = true → pendingSource s.irq = none) ∧ s.cpu.halted = false ∧ decode [0x10, 0x00] = .ok (.stop 0, []) ∧
      s.BytesAtPc [0x10, 0x00] ∧
      ∃ e, exec (.stop 0) (s.setPc (s.cpu.pc + BitVec.ofNat 16 [(0x10 : Byte), 0x00].length)) = .fault e :=
  ⟨by decide, rfl, rfl, by unfold State.BytesAtPc; decide, _, rfl⟩

/-- A machine whose work RAM ends in the bytes 0xC3 0x06. -/
def edge (pc : Word) : State := { start { cpu0 with pc := pc } with wram := [(0x1FFE, 0xC3), (0x1FFF, 0x06)] }

/-- A fetch that faults at the opcode, at the second byte and at the third: the bytes end at 0xDFFF. -/
theorem witness_FetchFault :
    ((edge 0xE000).cpu.ime = true → pendingSource (edge 0xE000).irq = none) ∧ (edge 0xE000).cpu.halted = false ∧
      (∃ e, busRead .cpu 0xE000 (edge 0xE000) = .error e) ∧
      ((edge 0xDFFF).peek 0xDFFF = some 0x06 ∧ opcodeLength 0x06 = 2 ∧ ∃ e, busRead .cpu 0xE000 (edge 0xDFFF) = .error e) ∧
      ((edge 0xDFFE).peek 0xDFFE = some 0xC3 ∧ opcodeLength 0xC3 = 3 ∧ (edge 0xDFFE).peek 0xDFFF = some 0x06 ∧
        ∃ e, busRead .cpu 0xE000 (edge 0xDFFE) = .error e) :=
  ⟨by decide, rfl, exists_error (by decide), ⟨by decide, by decide, exists_error (by decide)⟩, by decide, by decide, by decide,
    exists_error (by decide)⟩

theorem witness_InterruptDispatch :
    let s (sp : Word) := { start { cpu0 with sp := sp, ime := true } with irq := { ie := 0x10, iflag := 0x10 } }
    let s' (sp : Word) := { s sp with cpu := { (s sp).cpu with ime := false, halted := false }, irq := { ie := 0x10, iflag := 0 } }
    (s 0xD000).cpu.ime = true ∧ pendingSource (s 0xD000).irq = some .joypad ∧
      (∃ u, (s' 0xD000).pushed 0xC000 = .ok u) ∧ (∃ e, (s' 0xC000).pushed 0xC000 = .error e) ∧
      touches (0xD000 - 1) 0xD000 = false ∧ touches (0xD000 - 2) 0xD000 = false :=
  ⟨rfl, by decide, ⟨_, rfl⟩, ⟨_, rfl⟩, by decide, by decide⟩

theorem witness_HaltedStep :
    let s (wakes : Bool) (iflag : Byte) := { start { cpu0 with halted := true } with
      irq := { ie := 0x1F, iflag := iflag }, params := { Params.default with haltWakes := wakes } }
    (s false 0x10).cpu.halted = true ∧ ((s false 0x10).cpu.ime = true → pendingSource (s false 0x10).irq = none) ∧
      (s false 0x10).params.haltWakes = false ∧ (s true 0xE0).params.haltWakes = true ∧
      (s true 0xE0).irq.ie &&& (s true 0xE0).irq.iflag &&& 0x1F = 0 ∧
      (s true 0x10).irq.ie &&& (s true 0x10).irq.iflag &&& 0x1F ≠ 0 := by decide

theorem witness_LoadFromMemory : ramState.peek 0xC100 = some 0 ∧ (spHl 0 0xFF 0xFF).peek 0xFFFF = some 0 ∧
    (∃ e, busRead .cpu 0xFEFF (spHl 0 0xFE 0xFF) = .error e) ∧ (∃ e, busRead .cpu 0xFF7F ramState = .error e) :=
  ⟨by decide, by decide, ⟨_, rfl⟩, _, rfl⟩

theorem witness_StoreToMemory : (∃ t, busWrite 0xC100 0x12 ramState = .ok t) ∧ (∃ t, busWrite 0xFFFF 0x12 ramState = .ok t) ∧
    (∃ e, busWrite 0x7FFF 0x12 ramState = .error e) ∧ (∃ e, busWrite 0xFF03 0x12 ramState = .error e) :=
  ⟨⟨_, rfl⟩, ⟨_, rfl⟩, ⟨_, rfl⟩, _, rfl⟩

theorem witness_LoadStoreHlStep : (∃ t, busWrite 0xFFFF 0x05 (spHl 0 0xFF 0xFF) = .ok t) ∧
    (∃ e, busWrite 0xE000 0x05 (spHl 0 0xE0 0x00) = .error e) ∧ (spHl 0 0 0).peek 0x0000 = some 0 ∧
    (∃ e, busRead .cpu 0xE000 (spHl 0 0xE0 0x00) = .error e) := ⟨⟨_, rfl⟩, ⟨_, rfl⟩, by decide, _, rfl⟩

theorem witness_StoreSp :
    (∃ t u, busWrite 0xDFFE 0xCD ramState = .ok t ∧ busWrite (0xDFFE + 1) 0xAB t = .ok u) ∧
    (∃ t e, busWrite 0xDFFF 0xCD ramState = .ok t ∧ busWrite (0xDFFF + 1) 0xAB t = .error e) ∧
    (∃ e, busWrite 0xE000 0xCD ramState = .error e) := ⟨⟨_, _, rfl, rfl⟩, ⟨_, _, rfl, rfl⟩, _, rfl⟩

/-- A push into work RAM, one whose first write faults and one whose second write faults. -/
theorem witness_Push : (∃ u, (spHl 0xC002 0 0).pushed 0x1234 = .ok u) ∧ (∃ e, (spHl 0xC000 0 0).pushed 0x1234 = .error e) ∧
    (∃ e, (spHl 0xC001 0 0).pushed 0x1234 = .error e) := ⟨⟨_, rfl⟩, ⟨_, rfl⟩, _, rfl⟩

/-- A pop from the last two bytes of work RAM, one whose first read faults and one whose second read faults. -/
theorem witness_Pop : ((spHl 0xDFFE 0 0).peek 0xDFFE = some 0 ∧ (spHl 0xDFFE 0 0).peek (0xDFFE + 1) = some 0) ∧
    (∃ e, busRead .cpu 0xE000 (spHl 0xE000 0 0) = .error e) ∧
    (busRead .cpu 0xDFFF (spHl 0xDFFF 0 0) = .ok 0 ∧
      ∃ e, busRead .cpu (0xDFFF + 1) ((spHl 0xDFFF 0 0).setSp (0xDFFF + 1)) = .error e) :=
  ⟨⟨by decide, by decide⟩, ⟨_, rfl⟩, rfl, _, rfl⟩

theorem witness_PushPopRoundTrip : plainRam ((spHl 0xC002 0 0).cpu.sp - 1) ∧ plainRam ((spHl 0xC002 0 0).cpu.sp - 2) :=
  ⟨.inr (.inl (by decide)), .inr (.inl (by decide))⟩

/-- The three sources of an ALU operation can be read, and (HL) can fault: the hypotheses of `AddCarry`, `SubCompare` and `Logic`. -/
theorem witness_AddCarry : AluSrc.value (.reg .a) ramState = some 0 ∧ AluSrc.value .mhl ramState = some 0 ∧
    AluSrc.value (.imm 0xFF) ramState = some 0xFF ∧ ∃ e, busRead .cpu (spHl 0 0xE0 0).hl (spHl 0 0xE0 0) = .error e :=
  ⟨by decide, by decide, by decide, _, rfl⟩

theorem witness_SubCompare : AluSrc.value (.reg .h) ramState = some 0xC1 ∧ AluSrc.value .mhl ramState = some 0 ∧
    ∃ e, busRead .cpu (spHl 0 0xFD 0xFF).hl (spHl 0 0xFD 0xFF) = .error e := ⟨by decide, by decide, _, rfl⟩

theorem witness_Logic : AluSrc.value (.imm 0) ramState = some 0 ∧ AluSrc.value .mhl (spHl 0 0x9F 0xFF) = some 0 ∧
    ∃ e, busRead .cpu (spHl 0 0xA0 0).hl (spHl 0 0xA0 0) = .error e := ⟨by decide, by decide, _, rfl⟩

/-- (HL) readable and writable; not readable; readable but not writable (LY). -/
theorem witness_IncDec :
    (ramState.peek (ramState.pair .hl) = some 0 ∧ (∃ t, busWrite (ramState.pair .hl) (0 + 1) ramState = .ok t) ∧
      ∃ t, busWrite (ramState.pair .hl) (0 - 1) ramState = .ok t) ∧
    (∃ e, busRead .cpu ((spHl 0 0xE0 0).pair .hl) (spHl 0 0xE0 0) = .error e) ∧
    ((spHl 0 0xFF 0x44).peek ((spHl 0 0xFF 0x44).pair .hl) = some 0 ∧
      (∃ e, busWrite ((spHl 0 0xFF 0x44).pair .hl) (0 + 1) (spHl 0 0xFF 0x44) = .error e) ∧
      ∃ e, busWrite ((spHl 0 0xFF 0x44).pair .hl) (0 - 1) (spHl 0 0xFF 0x44) = .error e) :=
  ⟨⟨by decide, exists_ok (by decide), exists_ok (by decide)⟩, exists_error (by decide), by decide, exists_error (by decide),
    exists_error (by decide)⟩

theorem witness_DecimalAdjust : (start { cpu0 with a := 0x9A }).nf = false ∧ (start { cpu0 with a := 0x9A, f := 0x40 }).nf = true := by
  decide

theorem witness_DecimalArithmetic : (start { cpu0 with a := 0x99, b := 0x99 }).cpu.a = bcd 99 ∧
    (start { cpu0 with a := 0x99, b := 0x99 }).cpu.b = bcd 99 ∧ (start cpu0).cpu.a = bcd 0 ∧ (start { cpu0 with b := 1 }).cpu.b = bcd 1 := by
  decide

/-- A register operand, (HL) in RAM, (HL) not readable, (HL) readable but not writable: the hypotheses of `RotateOperand`. -/
theorem witness_RotateOperand :
    (Operand8.value (.reg .l) ramState = some 0 ∧ ∃ w, Operand8.written (.reg .l) (rotSpec .srl 0 false).1 ramState = .ok w) ∧
    (Operand8.value .mhl ramState = some 0 ∧ ∃ w, Operand8.written .mhl (rotSpec .rlc 0 false).1 ramState = .ok w) ∧
    (∃ e, busRead .cpu (spHl 0 0xE0 0).hl (spHl 0 0xE0 0) = .error e) ∧
    (Operand8.value .mhl (spHl 0 0xFF 0x44) = some 0 ∧
      ∃ e, Operand8.written .mhl (rotSpec .swap 0 false).1 (spHl 0 0xFF 0x44) = .error e) :=
  ⟨⟨by decide, exists_ok (by decide)⟩, ⟨by decide, exists_ok (by decide)⟩, exists_error (by decide), by decide,
    exists_error (by decide)⟩

theorem witness_BitTest : Operand8.value (.reg .h) ramState = some 0xC1 ∧ Operand8.value .mhl ramState = some 0 ∧
    ∃ e, busRead .cpu (spHl 0 0xE0 0).hl (spHl 0 0xE0 0) = .error e := ⟨by decide, by decide, _, rfl⟩

theorem witness_BitResetSet :
    (Operand8.value .mhl ramState = some 0 ∧
      (∃ w, Operand8.written .mhl (0 &&& ~~~(1#8 <<< Bit3.b7.code.toNat)) ramState = .ok w) ∧
      ∃ w, Operand8.written .mhl (0 ||| 1#8 <<< Bit3.b7.code.toNat) ramState = .ok w) ∧
    (Operand8.value .mhl (spHl 0 0xFF 0x44) = some 0 ∧
      (∃ e, Operand8.written .mhl (0 &&& ~~~(1#8 <<< Bit3.b0.code.toNat)) (spHl 0 0xFF 0x44) = .error e) ∧
      ∃ e, Operand8.written .mhl (0 ||| 1#8 <<< Bit3.b0.code.toNat) (spHl 0 0xFF 0x44) = .error e) ∧
    (∃ e, busRead .cpu (spHl 0 0xE0 0).hl (spHl 0 0xE0 0) = .error e) :=
  ⟨⟨by decide, exists_ok (by decide), exists_ok (by decide)⟩, ⟨by decide, exists_error (by decide), exists_error (by decide)⟩,
    exists_error (by decide)⟩

theorem witness_Calls : ramState.cond .nz = true ∧ ramState.cond .z = false ∧ (∃ t, ramState.pushed ramState.cpu.pc = .ok t) ∧
    ∃ e, (spHl 0xC000 0 0).pushed 0xC000 = .error e := ⟨by decide, by decide, ⟨_, rfl⟩, _, rfl⟩

theorem witness_Returns : ramState.cond .nc = true ∧ ramState.cond .c = false ∧
    ((spHl 0xDFFE 0 0).peek 0xDFFE = some 0 ∧ (spHl 0xDFFE 0 0).peek (0xDFFE + 1) = some 0) ∧
    (∃ e, busRead .cpu 0xE000 (spHl 0xE000 0 0) = .error e) ∧
    (busRead .cpu 0xDFFF (spHl 0xDFFF 0 0) = .ok 0 ∧
      ∃ e, busRead .cpu (0xDFFF + 1) ((spHl 0xDFFF 0 0).setSp (0xDFFF + 1)) = .error e) :=
  ⟨by decide, by decide, ⟨by decide, by decide⟩, ⟨_, rfl⟩, rfl, _, rfl⟩

theorem witness_SystemOps : (start { cpu0 with ime := true }).cpu.ime = true ∧ pendingSource { ie := 0x01, iflag := 0x01 } = some .vblank ∧
    pendingSource { ie := 0x10, iflag := 0x1F } = some .joypad := by decide

theorem witness_FrameRegisters : (∃ t, exec (Form.pop .af).instr (spHl 0xDFFE 0 0) = .next t) ∧
    (Form.pop .af).writesReg .b = false ∧ (Form.incReg .b).writesSp = false ∧ (Form.pop .af).writesPc = false ∧
    (Form.pop .af).writesIme = false ∧ (Form.pop .af).writesHalted = false :=
  ⟨⟨_, rfl⟩, by decide, by decide, by decide, by decide, by decide⟩

theorem witness_FrameNoStore : (Form.alu .cp .mhl).storeAddrs ramState = [] ∧ (∃ t, exec (Form.alu .cp .mhl).instr ramState = .next t) ∧
    (Form.callCond .z 0xC000).storeAddrs ramState = [] ∧ ∃ t, exec (Form.callCond .z 0xC000).instr ramState = .next t :=
  ⟨rfl, ⟨_, rfl⟩, by decide, _, rfl⟩

theorem witness_FrameStores : (∃ t, exec Form.ldMHlIncA.instr ramState = .next t) ∧
    Form.ldMHlIncA.storeAddrs ramState = [0xC100] ∧ touches 0xC100 0xC101 = false := ⟨⟨_, rfl⟩, by decide, by decide⟩

/-- What stores to the control addresses touch, to the ends of their windows. -/
theorem witness_FrameStores_windows : touches 0xC100 0xC100 = true ∧ touches 0x2000 0x3FFF = false ∧ touches 0x2000 0x4000 = true ∧
    touches 0x3FFF 0x7FFF = true ∧ touches 0x3FFF 0x8000 = false ∧ touches 0x1FFF 0xA000 = true ∧ touches 0x1FFF 0xBFFF = true ∧
    touches 0x1FFF 0xC000 = false ∧ touches 0xFF50 0x00FF = true ∧ touches 0xFF50 0x0100 = false := by decide +kernel

/-- The clauses of the bus statements at the ends of their ranges: which row each address falls under (20_memory.md R80). -/
theorem witness_BusReads_memories :
    [0x00FF, 0x0100, 0x3FFF, 0x4000, 0x7FFF, 0x8000, 0x9FFF, 0xA000, 0xBFFF, 0xC000, 0xDFFF, 0xE000, 0xFDFF, 0xFE00, 0xFE9F, 0xFEA0, 0xFEFF].map
        (busTarget true true) =
      [.boot 0xFF, .rom 0x100, .rom 0x3FFF, .romBank 0, .romBank 0x3FFF, .vram 0, .vram 0x1FFF, .cartRam 0, .cartRam 0x1FFF, .wram 0,
        .wram 0x1FFF, .unmapped, .unmapped, .oam 0, .oam 0x9F, .unmapped, .unmapped] := by decide

theorem witness_BusReads_off : [0x0000, 0x00FF, 0xFE00, 0xFE9F].map (busTarget false false) = [.rom 0, .rom 0xFF, .unmapped, .unmapped] := by
  decide

theorem witness_BusReads_ports :
    [0xFF00, 0xFF01, 0xFF02, 0xFF03, 0xFF04, 0xFF05, 0xFF06, 0xFF07, 0xFF08, 0xFF0E, 0xFF0F, 0xFF10, 0xFF3F].map (busTarget false false) =
      [.joyp, .serialData, .serialControl, .unmapped, .div, .tima, .tma, .tac, .unmapped, .unmapped, .iflag, .sound 0, .sound 0x2F] := by
  decide

theorem witness_BusReads_ppu :
    [0xFF40, 0xFF41, 0xFF42, 0xFF43, 0xFF44, 0xFF45, 0xFF46, 0xFF47, 0xFF48, 0xFF49, 0xFF4A, 0xFF4B].map (busTarget false false) =
      [.ppu .lcdc, .ppu .stat, .ppu .scy, .ppu .scx, .ppu .ly, .ppu .lyc, .ppu .dma, .ppu .bgp, .ppu .obp0, .ppu .obp1, .ppu .wy, .ppu .wx] := by
  decide +kernel

theorem witness_BusReads_high :
    [0xFF4C, 0xFF4F, 0xFF50, 0xFF51, 0xFF7F, 0xFF80, 0xFFFE, 0xFFFF].map (busTarget false false) =
      [.unmapped, .unmapped, .bootOff, .unmapped, .unmapped, .hram 0, .hram 0x7E, .ie] := by decide +kernel

/-- A session with 8 KiB of battery RAM, enabled. -/
def ramCart : State :=
  { ramState with cart := { State.reset.cart with rom := [(0x147, 0x03), (0x149, 0x02)], ramEnabled := true } }

/-- The clauses with a hypothesis on the state: the overlay on; the ROM's last byte and the byte past it; battery RAM open, absent
and disabled; the OAM window on. -/
theorem witness_BusReads_states :
    ({ ramState with overlay := true }).overlay = true ∧
    (0x3FFF < State.reset.cart.romLen ∧ ({ State.reset.cart with romLen := 0x3FFF }).romLen ≤ 0x3FFF) ∧
    (State.reset.cart.bank.toNat * 0x4000 + 0x3FFF < State.reset.cart.romLen ∧
      State.reset.cart.romLen ≤ ({ State.reset.cart with bank := 2 }).bank.toNat * 0x4000 + 0) ∧
    (0 < ramCart.ramSize ∧ ramCart.cart.ramEnabled = true) ∧ ramState.ramSize = 0 ∧ State.reset.cart.ramEnabled = false ∧
    ({ Params.default with oamWindow := true }).oamWindow = true := by decide

/-- The clauses of `BusWrites` with a hypothesis on the state or the value: a refused sound write and one that is not. -/
theorem witness_BusWrites : (0xFF3F, 0x80) ∈ ({ Params.default with soundRefused := [(0xFF3F, 0x80)] }).soundRefused ∧
    ((0xFF10 : Word), (0x80 : Byte)) ∉ Params.default.soundRefused ∧ (0 < ramCart.ramSize ∧ ramCart.cart.ramEnabled = true) ∧
    ramState.ramSize = 0 ∧ unmappedAddr false 0xFE9F ∧ unmappedAddr true 0xFF7F :=
  ⟨by decide, by decide, by decide, by decide, .inr (.inl (by decide)), .inr (.inr (.inr (.inr (.inr (.inr (by decide))))))⟩

theorem witness_RamReadsBack : plainRam 0x8000 ∧ plainRam 0x9FFF ∧ plainRam 0xC000 ∧ plainRam 0xDFFF ∧ plainRam 0xFF80 ∧
    plainRam 0xFFFE ∧ (0xFFFE : Word) ≠ 0xFF80 :=
  ⟨.inl (by decide), .inl (by decide), .inr (.inl (by decide)), .inr (.inl (by decide)), .inr (.inr (by decide)),
    .inr (.inr (by decide)), by decide⟩

/-- Steps that set and clear IME and `halted`, by instruction, by dispatch and by a halted step. -/
theorem witness_ControlBits :
    (∃ t, step (code [0xFB] cpu0) = .next t ∧ t.cpu.ime = true) ∧
    (∃ t, step (code [0xF3] { cpu0 with ime := true }) = .next t ∧ t.cpu.ime = false) ∧
    (∃ t, step (code [0x76] cpu0) = .next t ∧ t.cpu.halted = true) ∧
    (∃ t, step { start { cpu0 with sp := 0xD000, ime := true, halted := true } with irq := { ie := 1, iflag := 1 } } = .next t ∧
      t.cpu.ime = false ∧ t.cpu.halted = false) ∧
    (∃ t, step { start { cpu0 with halted := true } with irq := { ie := 1, iflag := 1 }, params := { Params.default with haltWakes := true } } =
      .next t ∧ t.cpu.halted = false) :=
  ⟨⟨_, rfl, rfl⟩, ⟨_, rfl, rfl⟩, ⟨_, rfl, rfl⟩, ⟨_, rfl, rfl, rfl⟩, _, rfl, rfl⟩

theorem witness_ConfigurationFixed : ∃ t, step (code [0x00] cpu0) = .next t ∧ ¬ t.overlay = true := ⟨_, rfl, by decide⟩

/-- A boot session's step: the overlay is on before it and after it. -/
theorem witness_ConfigurationFixed_overlay : ∃ t, step { code [0x00] cpu0 with overlay := true } = .next t ∧ t.overlay = true :=
  ⟨_, rfl, rfl⟩

theorem witness_CycleCounts :
    (∃ t, cpuStep { start { cpu0 with sp := 0xD000, ime := true } with irq := { ie := 0x10, iflag := 0x10 } } = .next t ∧
      pendingSource { ie := 0x10, iflag := 0x10 } = some .joypad) ∧
    (∃ t, cpuStep (start { cpu0 with halted := true }) = .next t) ∧
    (∃ t, cpuStep (code [0xCD, 0x00, 0xC2] cpu0) = .next t ∧ t.cycles = 24) := ⟨⟨_, rfl, by decide⟩, ⟨_, rfl⟩, _, rfl, rfl⟩

/-- A tick at a multiple of the period and one before it, enabled; the timer off; TIMA at 0xFF and below it. -/
theorem witness_TimerTick :
    let s (cnt : Word) (tima tac : Byte) := { ramState with timer := { cnt := cnt, tima := tima, tma := 0x40, tac := tac } }
    ((s 0x000F 0xFF 0x05).timer.tac.getLsbD 2 = true ∧ ((s 0x000F 0xFF 0x05).timer.cnt + 1).toNat % timerPeriod 0x05 = 0 ∧
      (s 0x000F 0xFF 0x05).timer.tima = 0xFF) ∧
    (((s 0xFFFF 0xFE 0x04).timer.cnt + 1).toNat % timerPeriod 0x04 = 0 ∧ (s 0xFFFF 0xFE 0x04).timer.tima ≠ 0xFF) ∧
    ¬(((s 0x000E 0xFF 0x05).timer.cnt + 1).toNat % timerPeriod 0x05 = 0) ∧ (s 0x000F 0xFF 0x01).timer.tac.getLsbD 2 = false := by
  decide

theorem witness_TimerRate :
    let s := { ramState with timer := { cnt := 0xFC00, tima := 0xFE, tma := 0, tac := 0x04 } }
    s.timer.tac.getLsbD 2 = true ∧ s.timer.cnt.toNat % timerPeriod s.timer.tac = 0 ∧ s.timer.tima ≠ 0xFF ∧
      1023 < timerPeriod s.timer.tac := by decide

/-- A PPU at a line and dot. -/
def ppuAt (ly : Byte) (dot : Nat) (mode : PpuMode) (statIrq : Bool) : State :=
  { ramState with ppu := { Ppu.postBoot with ly := ly, dot := dot, mode := mode, statSel := 0xF },
                  params := { Params.default with statIrq := statIrq } }

theorem witness_PpuTickEvents : ramState.ppu.lcdc.getLsbD 7 = false ∧ (ppuAt 143 455 .hblank false).ppu.lcdc.getLsbD 7 = true ∧
    (∃ t, ppuTick (ppuAt 143 455 .hblank false) = .ok t ∧ t.ppu.ly = 144) ∧
    (∃ t, ppuTick (ppuAt 144 455 .vblank false) = .ok t ∧ t.ppu.ly = 145) := ⟨by decide, by decide, ⟨_, rfl, rfl⟩, _, rfl, rfl⟩

/-- A tick at the mode 2 to 3 boundary, with and without a transfer running, and ticks in and out of mode 2 beside it. -/
theorem witness_PpuTickEvents_scan :
    let s (dot : Nat) (d : Option DmaTransfer) := { ramState with ppu := { Ppu.postBoot with dot := dot, dmaState := d } }
    ((s 79 none).ppu.mode = .oamScan ∧ (s 79 none).ppu.dmaState = none ∧ ∃ t, ppuTick (s 79 none) = .ok t) ∧
    (∃ t, ppuTick (s 79 (some { source := 0xC000, offset := 0 })) = .ok t) ∧
    (¬((s 78 none).ppu.mode = .oamScan ∧ (s 78 none).ppu.dot = 79) ∧ ∃ t, ppuTick (s 78 none) = .ok t) ∧
    ¬((ppuAt 144 79 .vblank false).ppu.mode = .oamScan ∧ (ppuAt 144 79 .vblank false).ppu.dot = 79) :=
  ⟨⟨rfl, rfl, _, rfl⟩, ⟨_, rfl⟩, ⟨by decide, _, rfl⟩, by decide⟩

theorem witness_LineOfDots : (State.Timed (ppuAt 153 0 .vblank false) ∧ State.Timed (ppuAt 0 0 .oamScan false)) ∧
    (ppuAt 153 0 .vblank false).ppu.lcdc.getLsbD 7 = true ∧ (ppuAt 153 0 .vblank false).ppu.dmaState = none ∧
    (ppuAt 153 0 .vblank false).ppu.dot = 0 ∧ (ppuAt 153 0 .vblank false).DmaReads :=
  ⟨⟨⟨by decide, by decide, by decide⟩, by decide, by decide, by decide⟩, by decide, rfl, rfl, fun _ h => by cases h⟩

/-- A line during which the last 10 bytes of a transfer from page 0xDF are copied. -/
theorem witness_LineOfDots_transfer :
    State.DmaReads { ramState with ppu := { Ppu.postBoot with dmaState := some { source := 0xDF00, offset := 150 } } } := by
  intro x h
  cases h
  refine ⟨by decide, fun k h1 h2 => ?_⟩
  have : ∀ k, k < 160 → 150 ≤ k → (State.peek { ramState with
    ppu := { Ppu.postBoot with dmaState := some { source := 0xDF00, offset := 150 } } } (0xDF00 + BitVec.ofNat 16 k)) = some 0 := by decide +kernel
  exact ⟨_, this k h2 h1⟩

theorem witness_StatInterrupt : (∃ t, ppuTick (ppuAt 0 247 .transfer true) = .ok t ∧ t.ppu.mode = .hblank) ∧
    (∃ t, ppuTick (ppuAt 0 247 .transfer false) = .ok t) ∧ (ppuAt 0 247 .transfer true).params.statIrq = true ∧
    (ppuAt 0 247 .transfer false).params.statIrq = false ∧ (ppuAt 0 247 .transfer true).ppu.lcdc.getLsbD 7 = true :=
  ⟨⟨_, rfl, by decide⟩, ⟨_, rfl⟩, rfl, rfl, by decide⟩

/-- The first and the last pixel of a line, and the dots before and after them. -/
theorem witness_PixelDrawn :
    (State.Timed (ppuAt 0 80 .transfer false) ∧ ∃ t, ppuTick (ppuAt 0 80 .transfer false) = .ok t) ∧
    (State.Timed (ppuAt 143 239 .transfer false) ∧ ∃ t, ppuTick (ppuAt 143 239 .transfer false) = .ok t) ∧
    (State.Timed (ppuAt 0 79 .oamScan false) ∧ ∃ t, ppuTick (ppuAt 0 79 .oamScan false) = .ok t) ∧
    (State.Timed (ppuAt 0 240 .transfer false) ∧ ∃ t, ppuTick (ppuAt 0 240 .transfer false) = .ok t) :=
  ⟨⟨⟨by decide, by decide, by decide⟩, _, rfl⟩, ⟨⟨by decide, by decide, by decide⟩, _, rfl⟩,
    ⟨⟨by decide, by decide, by decide⟩, _, rfl⟩, ⟨by decide, by decide, by decide⟩, _, rfl⟩

/-- A transfer from page 0xDF, the last one allowed. -/
theorem witness_DmaCopies :
    let s := { ppuAt 0 0 .oamScan false with
      ppu := { Ppu.postBoot with dmaState := some { source := wordOf 0xDF 0, offset := 0 } } }
    s.ppu.lcdc.getLsbD 7 = true ∧ (0xDF : Byte).toNat ≤ 0xDF ∧ s.ppu.dmaState = some { source := wordOf 0xDF 0, offset := 0 } ∧
      ∀ k, k < 160 → s.peek (wordOf 0xDF 0 + BitVec.ofNat 16 k) = some 0 := ⟨by decide, by decide, rfl, by decide +kernel⟩

/-- A transfer whose source bytes end at offset 80: the ROM image ends there. -/
theorem witness_DmaCopies_end :
    let s := { ramState with cart := { State.reset.cart with romLen := 0x4050 },
                             ppu := { Ppu.postBoot with dmaState := some { source := wordOf 0x40 0, offset := 0 } } }
    (∀ k, k < 80 → s.peek (wordOf 0x40 0 + BitVec.ofNat 16 k) = some 0) ∧ s.peek (wordOf 0x40 0 + BitVec.ofNat 16 80) = none := by
  decide +kernel

/-- Transfers at the ends of the ranges of the fault clauses: battery RAM absent, the first byte past a short image at 0x3FFF, and the
banked window past the image. -/
theorem witness_DmaCopies_faults :
    let s (a : Word) (len : Nat) := { ramState with cart := { State.reset.cart with romLen := len },
                                                    ppu := { Ppu.postBoot with dmaState := some { source := a, offset := 0 } } }
    ((s 0xA000 0x8000).ppu.lcdc.getLsbD 7 = true ∧ (s 0xA000 0x8000).ramSize = 0 ∧ ∃ e, ppuTick (s 0xA000 0x8000) = .error e) ∧
    ((s 0x3FFF 0x3FFF).overlay = false ∧ (s 0x3FFF 0x3FFF).cart.romLen ≤ 0x3FFF ∧ ∃ e, ppuTick (s 0x3FFF 0x3FFF) = .error e) ∧
    ((s 0x7FFF 0x7FFF).cart.romLen ≤ 1 * 0x4000 + (0x7FFF - 0x4000) ∧ ∃ e, ppuTick (s 0x7FFF 0x7FFF) = .error e) :=
  ⟨⟨by decide, by decide, exists_error (by decide)⟩, ⟨rfl, by decide, exists_error (by decide)⟩, by decide, exists_error (by decide)⟩

/-- A write above 0xDF while a transfer runs (log 7). -/
theorem witness_DmaStart_both :
    let s := { ramState with ppu := { Ppu.postBoot with dmaState := some { source := 0xC000, offset := 159 } } }
    s.ppu.dmaState = some { source := 0xC000, offset := 159 } ∧ 0xDF < (0xE0 : Byte).toNat ∧
      ∃ e, busWrite 0xFF46 0xE0 s = .error e := ⟨rfl, by decide, exists_error (by decide)⟩

theorem witness_DmaStart : ramState.ppu.dmaState = none ∧ (0xDF : Byte).toNat ≤ 0xDF ∧ 0xDF < (0xE0 : Byte).toNat ∧
    ({ Ppu.postBoot with dmaState := some { source := 0xC000, offset := 159 } }).dmaState = some { source := 0xC000, offset := 159 } := by
  decide

theorem witness_StepKeepsInv : State.reset.Inv ∧ ∃ t, step State.reset = .next t :=
  ⟨⟨by decide, by decide, by decide, by decide, by decide, by decide, by decide, by decide, by decide, by decide, by decide,
    by decide, by decide, by decide, by decide⟩, _, rfl⟩

theorem witness_StepKeepsTimed : State.reset.Timed ∧ ∃ t, step State.reset = .next t :=
  ⟨⟨by decide, by decide, by decide⟩, _, rfl⟩

/-- Images one byte too short, with the first refused type, with a refused RAM size, and accepted at the bounds. -/
theorem witness_Construction :
    (List.replicate 0x3FFF (0 : Byte)).length < 0x4000 ∧
    (∀ v : Byte, 0x4000 ≤ (List.replicate 0x4000 v).length ∧ (List.replicate 0x4000 v).getD 0x147 0 = v ∧
      (List.replicate 0x4000 v).getD 0x149 0 = v) ∧
    3 < (4 : Byte).toNat ∧ ((1 : Byte).toNat ≤ 3 ∧ (1 : Byte).toNat ∉ [0, 2, 3, 4, 5]) ∧
    ((3 : Byte).toNat ≤ 3 ∧ (3 : Byte).toNat ∈ [0, 2, 3, 4, 5]) ∧ construct SessionArgs.default = .ok State.reset := by
  refine ⟨by rw [List.length_replicate]; omega, fun v => ?_, by decide, by decide, by decide, construct_default⟩
  rw [List.length_replicate, List.getD_eq_getElem?_getD, List.getD_eq_getElem?_getD, List.getElem?_replicate, List.getElem?_replicate]
  exact ⟨by omega, rfl, rfl⟩

/-- The last LY a save state may hold, and the first it may not. -/
theorem witness_SaveStateInstall : 153 < ((Vector.replicate 12 (154 : Byte))[4]).toNat ∧ ((Vector.replicate 12 (153 : Byte))[4]).toNat ≤ 153 := by
  decide

end Sys2Proof.Tests
end

/-! ### The data invariant along a step -/

namespace Sys2Proof.Machine

/-- The data invariant apart from F: it holds whatever the CPU registers hold, as long as F[3:0] = 0. Unlike `State.Inv` it is kept
by every change of the CPU registers, the instructions' intermediate states included. -/
def State.InvOutsideCpu (s : State) : Prop := ∀ c : Cpu, c.f &&& 0x0F = 0 → State.Inv { s with cpu := c }

theorem State.Inv.outsideCpu {s : State} (hi : s.Inv) : s.InvOutsideCpu := fun _ hc => { hi with flags := hc }

theorem State.InvOutsideCpu.inv {s : State} (hi : s.InvOutsideCpu) (hf : s.cpu.f &&& 0x0F = 0) : s.Inv := hi s.cpu hf

theorem State.InvOutsideCpu.of_sameOutsideCpu {s t : State} (hi : s.InvOutsideCpu) (h : SameOutsideCpu s t) :
    t.InvOutsideCpu := by
  intro c hc
  have hs := hi c hc
  rw [h]
  exact { hs with }

theorem State.InvOutsideCpu.setIrq {s : State} (hi : s.InvOutsideCpu) (q : Irq) : State.InvOutsideCpu { s with irq := q } :=
  fun c hc => { hi c hc with }

/-- A bus write keeps the invariant apart from F, since it makes the same change whatever the CPU registers hold. -/
theorem State.InvOutsideCpu.busWrite {a : Word} {v : Byte} {s t : State} (hi : s.InvOutsideCpu) (h : busWrite a v s = .ok t) :
    t.InvOutsideCpu := by
  intro c hc
  have ht : State.Inv { t with cpu := c, cycles := s.cycles } := busWrite_inv (hi c hc) (busWrite_cpu h c s.cycles)
  exact { ht with }

/-- A CPU step leaves F[3:0] = 0: dispatch and a halted step do not write F, an instruction's F is checked (10_state.md R33). -/
theorem cpuStep_flags {s t : State} (hf : s.cpu.f &&& 0x0F = 0) (h : cpuStep s = .next t) : t.cpu.f &&& 0x0F = 0 := by
  obtain ⟨src, -, h⟩ | ⟨-, -, h⟩ | ⟨-, -, i, -, -, ht⟩ := cpuStep_next h
  · obtain ⟨u, hu, rfl⟩ := dispatchIrq_next h
    rw [State.setPc_f, (State.pushed_cpu hu).1]
    exact hf
  · obtain ⟨b, rfl⟩ := idleStep_next h
    exact hf
  · exact ht

theorem cpuStep_inv {s t : State} (hi : s.Inv) (h : cpuStep s = .next t) : t.Inv :=
  have ho : t.InvOutsideCpu := cpuStep_keep (P := State.InvOutsideCpu) (fun _ _ => State.InvOutsideCpu.of_sameOutsideCpu)
    (fun _ q hs => hs.setIrq q) (fun _ _ _ _ => State.InvOutsideCpu.busWrite) h hi.outsideCpu
  ho.inv (cpuStep_flags hi.flags h)

/-- Settles O56: the CPU step keeps the invariant, and so does every tick after it. -/
theorem stepKeepsInv : Obligations.StepKeepsInv := by
  intro s t hi h
  obtain ⟨u, hu, ht⟩ := step_next h
  exact ticks_inv (cpuStep_inv hi hu) ht

end Sys2Proof.Machine

/-! ### What no step changes -/

namespace Sys2Proof.Machine

/-- `t` has the configuration of `s`: the ROM and the parameters (10_state.md R46), and no overlay that `s` has not (20_memory.md
R89). -/
structure SameConfiguration (s t : State) : Prop where
  rom : t.cart.rom = s.cart.rom
  romLen : t.cart.romLen = s.cart.romLen
  params : t.params = s.params
  overlay : t.overlay = true → s.overlay = true

theorem SameConfiguration.refl (s : State) : SameConfiguration s s := ⟨rfl, rfl, rfl, id⟩

theorem SameConfiguration.trans {s t u : State} (h : SameConfiguration s t) (h' : SameConfiguration t u) :
    SameConfiguration s u :=
  ⟨h'.rom.trans h.rom, h'.romLen.trans h.romLen, h'.params.trans h.params, h.overlay ∘ h'.overlay⟩

theorem SameConfiguration.of_sameOutsideCpu {s t : State} (h : SameOutsideCpu s t) : SameConfiguration s t := by
  rw [h]; exact ⟨rfl, rfl, rfl, id⟩

theorem SameConfiguration.of_busWrite {a : Word} {v : Byte} {s t : State} (h : busWrite a v s = .ok t) :
    SameConfiguration s t := by
  obtain ⟨-, hp, -, hr, hl, ho, -⟩ := busWrite_frame h
  exact ⟨hr, hl, hp, ho⟩

theorem SameConfiguration.of_sameOutsideDevices {s t : State} (h : SameOutsideDevices s t) : SameConfiguration s t := by
  obtain ⟨-, ho, -, -, hc, -, hp, -⟩ := h
  exact ⟨by rw [hc], by rw [hc], hp, fun h => ho ▸ h⟩

theorem cpuStep_sameConfiguration {s t : State} (h : cpuStep s = .next t) : SameConfiguration s t :=
  cpuStep_keep (P := SameConfiguration s) (fun _ _ hs hc => hs.trans (.of_sameOutsideCpu hc))
    (fun _ _ hs => hs.trans ⟨rfl, rfl, rfl, id⟩) (fun _ _ _ _ hs hw => hs.trans (.of_busWrite hw)) h (.refl s)

theorem step_sameConfiguration {s t : State} (h : step s = .next t) : SameConfiguration s t := by
  obtain ⟨u, hu, ht⟩ := step_next h
  exact (cpuStep_sameConfiguration hu).trans (.of_sameOutsideDevices (ticks_frame ht))

/-- The battery RAM size is read from the ROM header (20_memory.md R113). -/
theorem SameConfiguration.ramSize {s t : State} (h : SameConfiguration s t) : t.ramSize = s.ramSize := by
  unfold State.ramSize; rw [h.rom]

/-- Settles O45: neither the CPU step nor the ticks after it change the configuration. -/
theorem configurationFixed : Obligations.ConfigurationFixed := by
  intro s t h
  have hc := step_sameConfiguration h
  exact ⟨hc.rom, hc.romLen, hc.params, hc.ramSize, hc.overlay⟩

end Sys2Proof.Machine

/-! ### The frame of the CPU registers -/

namespace Sys2Proof.Machine

theorem packFlags_getLsbD_low (z n h c : Bool) (f : Byte) {i : Nat} (hi : i < 4) :
    (packFlags z n h c f).getLsbD i = f.getLsbD i := by
  have hmask : ∀ i < 4, (0x0F : Byte).getLsbD i = true := by decide
  simpa only [BitVec.getLsbD_and, hmask i hi, Bool.and_true] using congrArg (BitVec.getLsbD · i) (packFlags_low z n h c f)

/-- Replacing the flags keeps the bits of F outside a mask when each flag is in the mask or as it was. -/
theorem packFlags_outside {z n h c : Bool} {f m : Byte} (hz : m.getLsbD 7 = true ∨ z = f.getLsbD 7)
    (hn : m.getLsbD 6 = true ∨ n = f.getLsbD 6) (hh : m.getLsbD 5 = true ∨ h = f.getLsbD 5)
    (hc : m.getLsbD 4 = true ∨ c = f.getLsbD 4) : packFlags z n h c f &&& ~~~m = f &&& ~~~m := by
  have hbit : ∀ i < 8, m.getLsbD i = true ∨ (packFlags z n h c f).getLsbD i = f.getLsbD i
    | 0, _ | 1, _ | 2, _ | 3, _ => .inr (packFlags_getLsbD_low z n h c f (by decide))
    | 4, _ => by rwa [packFlags_c]
    | 5, _ => by rwa [packFlags_h]
    | 6, _ => by rwa [packFlags_n]
    | 7, _ => by rwa [packFlags_z]
  refine BitVec.eq_of_getLsbD_eq fun i hi => ?_
  rw [BitVec.getLsbD_and, BitVec.getLsbD_and, BitVec.getLsbD_not]
  obtain h | h := hbit i hi <;> simp [h]

/-- From `s` to `t` nothing of the CPU changed but what the rule of a form names: its destination registers, its flags, and SP,
PC, IME and `halted` where the form writes them (10_state.md R31 to R41). -/
structure KeepsCpu (f : Form) (s t : State) : Prop where
  reg : ∀ r, f.writesReg r = false → t.reg r = s.reg r
  flags : t.cpu.f &&& ~~~f.flagMask = s.cpu.f &&& ~~~f.flagMask
  sp : f.writesSp = false → t.cpu.sp = s.cpu.sp
  pc : f.writesPc = false → t.cpu.pc = s.cpu.pc
  ime : f.writesIme = false → t.cpu.ime = s.cpu.ime
  halted : f.writesHalted = false → t.cpu.halted = s.cpu.halted

/-! What each write to the state may add to what has changed so far. -/

namespace KeepsCpu

variable {f : Form} {s t u : State}

theorem of_cpu (h : t.cpu = s.cpu) : KeepsCpu f s t :=
  ⟨fun r _ => by cases r <;> simp only [State.reg, h], by rw [h], fun _ => by rw [h], fun _ => by rw [h], fun _ => by rw [h],
    fun _ => by rw [h]⟩

theorem refl (f : Form) (s : State) : KeepsCpu f s s := of_cpu rfl

theorem trans (h : KeepsCpu f s t) (h' : KeepsCpu f t u) : KeepsCpu f s u :=
  ⟨fun r hr => (h'.reg r hr).trans (h.reg r hr), h'.flags.trans h.flags, fun hw => (h'.sp hw).trans (h.sp hw),
    fun hw => (h'.pc hw).trans (h.pc hw), fun hw => (h'.ime hw).trans (h.ime hw), fun hw => (h'.halted hw).trans (h.halted hw)⟩

theorem finish {n : Nat} (h : KeepsCpu f s t) (h' : finish n t = .next u) : KeepsCpu f s u := by
  rw [finish_next h']; exact h.trans (of_cpu rfl)

theorem busWrite {a : Word} {v : Byte} (h : KeepsCpu f s t) (h' : busWrite a v t = .ok u) : KeepsCpu f s u :=
  h.trans (of_cpu (busWrite_frame h').1)

theorem setReg (h : KeepsCpu f s t) {r : Reg8} (v : Byte) (hr : f.writesReg r = true) : KeepsCpu f s (t.setReg r v) where
  reg r' hr' := by
    have hne : r' ≠ r := by rintro rfl; exact nomatch hr.symm.trans hr'
    rw [State.setReg_reg, if_neg hne, h.reg r' hr']
  flags := by rw [State.setReg_f, h.flags]
  sp hw := by rw [State.setReg_sp, h.sp hw]
  pc hw := by rw [State.setReg_pc, h.pc hw]
  ime hw := by rw [State.setReg_ime, h.ime hw]
  halted hw := by rw [State.setReg_halted, h.halted hw]

theorem setSp (h : KeepsCpu f s t) (v : Word) (hw : f.writesSp = true) : KeepsCpu f s (t.setSp v) :=
  { h with reg := fun r hr => (State.setSp_reg t v r).trans (h.reg r hr), sp := fun hn => nomatch hw.symm.trans hn }

theorem setPc (h : KeepsCpu f s t) (v : Word) (hw : f.writesPc = true) : KeepsCpu f s (t.setPc v) :=
  { h with reg := fun r hr => (State.setPc_reg t v r).trans (h.reg r hr), pc := fun hn => nomatch hw.symm.trans hn }

theorem setIme (h : KeepsCpu f s t) (v : Bool) (hw : f.writesIme = true) : KeepsCpu f s (t.setIme v) :=
  { h with reg := fun r hr => (State.setIme_reg t v r).trans (h.reg r hr), ime := fun hn => nomatch hw.symm.trans hn }

theorem setHalted (h : KeepsCpu f s t) (v : Bool) (hw : f.writesHalted = true) : KeepsCpu f s (t.setHalted v) :=
  { h with reg := fun r hr => (State.setHalted_reg t v r).trans (h.reg r hr), halted := fun hn => nomatch hw.symm.trans hn }

theorem setHl (h : KeepsCpu f s t) (v : Word) (hh : f.writesReg .h = true) (hl : f.writesReg .l = true) :
    KeepsCpu f s (t.setHl v) :=
  (h.setReg (hiByte v) hh).setReg (loByte v) hl

theorem setPair (h : KeepsCpu f s t) {p : Pair} (v : Word) (hr : ∀ r, p.has r = true → f.writesReg r = true)
    (hs : p = .sp → f.writesSp = true) : KeepsCpu f s (t.setPair p v) := by
  cases p with
  | bc => exact (h.setReg _ (hr .b rfl)).setReg _ (hr .c rfl)
  | de => exact (h.setReg _ (hr .d rfl)).setReg _ (hr .e rfl)
  | hl => exact h.setHl v (hr .h rfl) (hr .l rfl)
  | sp => exact h.setSp v (hs rfl)

/-- A write of the four flags, each of them in the form's mask or as it was. -/
theorem setFlags (hk : KeepsCpu f s t) (m : Byte) (hm : f.flagMask = m) (hf : t.cpu.f = s.cpu.f) {z n h c : Bool}
    (hz : m.getLsbD 7 = true ∨ z = s.zf) (hn : m.getLsbD 6 = true ∨ n = s.nf) (hh : m.getLsbD 5 = true ∨ h = s.hf)
    (hc : m.getLsbD 4 = true ∨ c = s.cf) : KeepsCpu f s (t.setFlags z n h c) :=
  { hk with
    reg := fun r hr => (State.setFlags_reg t z n h c r).trans (hk.reg r hr)
    flags := by rw [State.setFlags_f, hf, hm, packFlags_outside hz hn hh hc] }

/-- A write of the four flags by a form that may change them all. -/
theorem setAllFlags (hk : KeepsCpu f s t) (hm : f.flagMask = 0xF0) (z n h c : Bool) : KeepsCpu f s (t.setFlags z n h c) :=
  hk.trans ((refl f t).setFlags 0xF0 hm rfl (.inl rfl) (.inl rfl) (.inl rfl) (.inl rfl))

/-- A write of the flags by INC, DEC or BIT, which keep C. -/
theorem setFlagsButC (hk : KeepsCpu f s t) (hm : f.flagMask = 0xE0) (hf : t.cpu.f = s.cpu.f) (z n h : Bool) :
    KeepsCpu f s (t.setFlags z n h s.cf) :=
  hk.setFlags 0xE0 hm hf (.inl rfl) (.inl rfl) (.inl rfl) (.inr rfl)

/-- A write of F by a form that may change all of it. -/
theorem setF (h : KeepsCpu f s t) (v : Byte) (hm : f.flagMask = 0xFF) : KeepsCpu f s (t.setF v) :=
  { h with
    reg := fun r hr => (State.setF_reg t v r).trans (h.reg r hr)
    flags := by
      have hnone : ~~~(0xFF : Byte) = 0#8 := by decide
      rw [hm, hnone, BitVec.and_zero, BitVec.and_zero] }

/-- A push changes SP alone of the CPU. -/
theorem pushed (h : KeepsCpu f s t) {v : Word} (hw : f.writesSp = true) (h' : t.pushed v = .ok u) : KeepsCpu f s u :=
  (h.setSp (t.cpu.sp - 2) hw).trans (of_cpu (State.pushed_cpu h').1)

/-- A write of an operand changes of the CPU at most the operand's register. -/
theorem written (h : KeepsCpu f s t) {x : Operand8} {v : Byte} (hx : ∀ r, x = .reg r → f.writesReg r = true)
    (h' : x.written v t = .ok u) : KeepsCpu f s u := by
  cases x with
  | reg r => cases h'; exact h.setReg v (hx r rfl)
  | mhl => exact h.busWrite h'

/-- A write of a pair of POP by a form that may change the pair's registers and, for AF, all of F. -/
theorem setStackPair (h : KeepsCpu f s t) {p : StackPair} (v : Word) (hr : ∀ r, p.has r = true → f.writesReg r = true)
    (hm : p = .af → f.flagMask = 0xFF) : KeepsCpu f s (t.setStackPair p v) := by
  cases p with
  | bc => exact h.setPair (p := .bc) v hr nofun
  | de => exact h.setPair (p := .de) v hr nofun
  | hl => exact h.setPair (p := .hl) v hr nofun
  | af => exact (h.setReg _ (hr .a rfl)).setF _ (hm rfl)

end KeepsCpu

/-! ### Every form keeps what its rule does not name -/

theorem returnFromIrq_next {s t : State} (h : returnFromIrq s = .next t) :
    ∃ v, finish 16 (((s.setSp (s.cpu.sp + 2)).setPc v).setIme true) = .next t := by
  obtain ⟨v, -, h⟩ := popThen_next h
  exact ⟨v, h⟩

/-- DAA leaves N as it was (42_alu8.md R283). -/
theorem daaResult_n (a : Byte) (n h c : Bool) : (daaResult a n h c).n = n := by
  cases n <;> rfl

section
variable {s t : State}

theorem rot_keepsCpu {op : RotOp} {x : Operand8} (h : rot op x s = .next t) : KeepsCpu (.rot op x) s t := by
  obtain ⟨v, -, h⟩ := readOperand_next h
  obtain ⟨u, hu, h⟩ := writeOperand_next h
  have hs := KeepsCpu.refl (.rot op x) s
  exact ((hs.written (fun _ hx => decide_eq_true hx) hu).setAllFlags rfl ..).finish h

theorem bit_keepsCpu {b : Bit3} {x : Operand8} (h : bit b x s = .next t) : KeepsCpu (.bit b x) s t := by
  obtain ⟨v, -, h⟩ := readOperand_next h
  exact ((KeepsCpu.refl _ s).setFlagsButC rfl rfl ..).finish h

theorem res_keepsCpu {b : Bit3} {x : Operand8} (h : res b x s = .next t) : KeepsCpu (.res b x) s t := by
  obtain ⟨v, -, h⟩ := readOperand_next h
  obtain ⟨u, hu, h⟩ := writeOperand_next h
  have hs := KeepsCpu.refl (.res b x) s
  exact (hs.written (fun _ hx => decide_eq_true hx) hu).finish h

theorem set_keepsCpu {b : Bit3} {x : Operand8} (h : set b x s = .next t) : KeepsCpu (.set b x) s t := by
  obtain ⟨v, -, h⟩ := readOperand_next h
  obtain ⟨u, hu, h⟩ := writeOperand_next h
  have hs := KeepsCpu.refl (.set b x) s
  exact (hs.written (fun _ hx => decide_eq_true hx) hu).finish h

/-- What the row 0xCB may change is what the CB row its second byte selects may change (30_encoding.md R163). -/
theorem KeepsCpu.of_decodeCb {c : Byte} (h : KeepsCpu (decodeCb c) s t) : KeepsCpu (.prefixCb c) s t := by
  have hcb : (∀ r, (Form.prefixCb c).writesReg r = (decodeCb c).writesReg r) ∧
      (Form.prefixCb c).flagMask = (decodeCb c).flagMask ∧ (decodeCb c).writesSp = false ∧ (decodeCb c).writesPc = false ∧
      (decodeCb c).writesIme = false ∧ (decodeCb c).writesHalted = false := by
    simp only [Form.writesReg, Form.flagMask]
    unfold decodeCb
    generalize (fieldX c).toNat = x
    rcases x with _ | _ | _ | x <;> exact ⟨fun _ => rfl, rfl, rfl, rfl, rfl, rfl⟩
  obtain ⟨hr, hm, hsp, hpc, hime, hhalted⟩ := hcb
  exact ⟨fun r hn => h.reg r ((hr r).symm.trans hn), by rw [hm]; exact h.flags, fun _ => h.sp hsp, fun _ => h.pc hpc,
    fun _ => h.ime hime, fun _ => h.halted hhalted⟩

theorem prefixCb_keepsCpu {c : Byte} (h : prefixCb c s = .next t) : KeepsCpu (.prefixCb c) s t := by
  refine .of_decodeCb ?_
  unfold prefixCb at h
  unfold decodeCb
  generalize (fieldX c).toNat = x at h ⊢
  rcases x with _ | _ | _ | x
  · exact rot_keepsCpu h
  · exact bit_keepsCpu h
  · exact res_keepsCpu h
  · exact set_keepsCpu h

theorem alu_keepsCpu {op : AluOp} {x : AluSrc} (h : alu op x s = .next t) : KeepsCpu (.alu op x) s t := by
  obtain ⟨v, -, h⟩ := readAluSrc_next h
  have hv : KeepsCpu (.alu op x) s (if aluWritesA op then s.setReg .a (aluResult op s.cpu.a v s.cf).value else s) := by
    split
    · exact (KeepsCpu.refl _ s).setReg _ (by simpa [Form.writesReg])
    · exact .refl _ s
  exact (hv.setAllFlags rfl ..).finish h

end

/-- A form changes nothing of the CPU but what its rule names: each write its meaning makes is of a destination of the form. -/
theorem execForm_keepsCpu {f : Form} {s t : State} (h : execForm f s = .next t) : KeepsCpu f s t := by
  have hs := KeepsCpu.refl f s
  cases f <;> simp only [execForm] at h
  case stop | illegal => cases h
  case nop => exact hs.finish h
  case halt => exact (hs.setHalted _ rfl).finish h
  case di | ei => exact (hs.setIme _ rfl).finish h
  case ldRegReg | ldRegImm => exact (hs.setReg _ (decide_eq_true rfl)).finish h
  case ldRegMHl =>
    obtain ⟨v, -, h⟩ := loadThen_next h
    exact (hs.setReg _ (decide_eq_true rfl)).finish h
  case ldAMPair | ldAMImm16 | ldhAMN | ldAMC =>
    obtain ⟨v, -, h⟩ := loadThen_next h
    exact (hs.setReg _ rfl).finish h
  case ldAMHlInc | ldAMHlDec =>
    obtain ⟨v, -, h⟩ := loadThen_next h
    exact ((hs.setReg _ rfl).setHl _ rfl rfl).finish h
  case ldMHlReg | ldMHlImm | ldMPairA | ldMImm16A | ldhMNA | ldMCA =>
    obtain ⟨u, hu, h⟩ := storeThen_next h
    exact (hs.busWrite hu).finish h
  case ldMHlIncA | ldMHlDecA =>
    obtain ⟨u, hu, h⟩ := storeThen_next h
    exact ((hs.busWrite hu).setHl _ rfl rfl).finish h
  case ldMImm16Sp =>
    obtain ⟨u, hu, h⟩ := storeThen_next h
    obtain ⟨w, hw, h⟩ := storeThen_next h
    exact ((hs.busWrite hu).busWrite hw).finish h
  case ldPairImm | incPair | decPair => exact (hs.setPair _ (fun _ hr => hr) (fun hp => decide_eq_true hp)).finish h
  case ldSpHl => exact (hs.setSp _ rfl).finish h
  case ldHlSpRel => exact ((hs.setHl _ rfl rfl).setAllFlags rfl ..).finish h
  case addSpRel => exact ((hs.setSp _ rfl).setAllFlags rfl ..).finish h
  case addHlPair =>
    exact ((hs.setHl _ rfl rfl).setFlags 0x70 rfl rfl (.inr rfl) (.inl rfl) (.inl rfl) (.inl rfl)).finish h
  case push =>
    obtain ⟨u, hu, h⟩ := pushThen_next h
    exact (hs.pushed rfl hu).finish h
  case call | rst =>
    obtain ⟨u, hu, h⟩ := pushThen_next h
    exact ((hs.pushed rfl hu).setPc _ rfl).finish h
  case callCond =>
    unfold callCond at h
    split at h
    · obtain ⟨u, hu, h⟩ := pushThen_next h
      exact ((hs.pushed rfl hu).setPc _ rfl).finish h
    · exact hs.finish h
  case pop p =>
    obtain ⟨v, -, h⟩ := popThen_next h
    exact ((hs.setSp _ rfl).setStackPair v (fun _ hr => hr) (fun hp => if_pos hp)).finish h
  case ret =>
    obtain ⟨v, -, h⟩ := popThen_next h
    exact ((hs.setSp _ rfl).setPc _ rfl).finish h
  case retCond =>
    unfold retCond at h
    split at h
    · obtain ⟨v, -, h⟩ := popThen_next h
      exact ((hs.setSp _ rfl).setPc _ rfl).finish h
    · exact hs.finish h
  case reti =>
    obtain ⟨v, h⟩ := returnFromIrq_next h
    exact (((hs.setSp _ rfl).setPc _ rfl).setIme _ rfl).finish h
  case jp | jpHl | jr => exact (hs.setPc _ rfl).finish h
  case jpCond =>
    unfold jpCond at h
    split at h
    · exact (hs.setPc _ rfl).finish h
    · exact hs.finish h
  case jrCond =>
    unfold jrCond at h
    split at h
    · exact (hs.setPc _ rfl).finish h
    · exact hs.finish h
  case alu => exact alu_keepsCpu h
  case incReg r | decReg r =>
    exact ((hs.setReg _ (decide_eq_true rfl)).setFlagsButC rfl (State.setReg_f s r _) ..).finish h
  case incMHl | decMHl =>
    obtain ⟨v, -, h⟩ := loadThen_next h
    obtain ⟨u, hu, h⟩ := storeThen_next h
    exact ((hs.busWrite hu).setFlagsButC rfl (congrArg Cpu.f (busWrite_frame hu).1) ..).finish h
  case daa => exact ((hs.setReg _ rfl).setFlags 0xB0 rfl rfl (.inl rfl) (.inr (daaResult_n ..)) (.inl rfl) (.inl rfl)).finish h
  case cpl => exact ((hs.setReg _ rfl).setFlags 0x60 rfl rfl (.inr rfl) (.inl rfl) (.inl rfl) (.inr rfl)).finish h
  case scf | ccf => exact (hs.setFlags 0x70 rfl rfl (.inr rfl) (.inl rfl) (.inl rfl) (.inl rfl)).finish h
  case rlca | rrca | rla | rra => exact ((hs.setReg _ rfl).setAllFlags rfl ..).finish h
  case rot => exact rot_keepsCpu h
  case bit => exact bit_keepsCpu h
  case res => exact res_keepsCpu h
  case set => exact set_keepsCpu h
  case prefixCb => exact prefixCb_keepsCpu h

/-- Settles O38: an instruction's meaning is its form's, and every form keeps what its rule does not name. -/
theorem frameRegisters : Obligations.FrameRegisters := by
  intro f s t h
  rw [exec_instr] at h
  obtain ⟨hreg, hflags, hsp, hpc, hime, hhalted⟩ := execForm_keepsCpu h
  exact ⟨hreg, hflags, hsp, hpc, hime, hhalted⟩

theorem exec_keepsCpu {i : Instr} {s t : State} (h : exec i s = .next t) : KeepsCpu i.form s t :=
  execForm_keepsCpu ((exec_eq i s).symm.trans h)

end Sys2Proof.Machine

/-! ### Who changes IME and `halted` -/

namespace Sys2Proof.Machine

theorem writesIme_iff (f : Form) : f.writesIme = true ↔ f = .di ∨ f = .ei ∨ f = .reti := by
  cases f <;> simp [Form.writesIme]

theorem writesHalted_iff (f : Form) : f.writesHalted = true ↔ f = .halt := by
  cases f <;> simp [Form.writesHalted]

theorem eq_instr_of_form_eq {i : Instr} {f : Form} (h : i.form = f) : i = f.instr := by
  rw [← h, Instr.instr_form]

section
variable {s t : State}

/-- An instruction leaves IME as it was, or is DI and clears it, or is EI or RETI and sets it (10_state.md R40). -/
theorem exec_ime {i : Instr} (h : exec i s = .next t) :
    t.cpu.ime = s.cpu.ime ∨ (i = .di ∧ t.cpu.ime = false) ∨ ((i = .ei ∨ i = .reti) ∧ t.cpu.ime = true) := by
  cases hw : i.form.writesIme with
  | false => exact .inl ((exec_keepsCpu h).ime hw)
  | true =>
    obtain hf | hf | hf := (writesIme_iff i.form).mp hw <;> cases eq_instr_of_form_eq hf
    · cases h; exact .inr (.inl ⟨rfl, rfl⟩)
    · cases h; exact .inr (.inr ⟨.inl rfl, rfl⟩)
    · obtain ⟨v, h⟩ := returnFromIrq_next h
      cases h
      exact .inr (.inr ⟨.inr rfl, rfl⟩)

/-- An instruction leaves `halted` as it was, or is HALT and sets it (10_state.md R41). -/
theorem exec_halted {i : Instr} (h : exec i s = .next t) :
    t.cpu.halted = s.cpu.halted ∨ (i = .halt ∧ t.cpu.halted = true) := by
  cases hw : i.form.writesHalted with
  | false => exact .inl ((exec_keepsCpu h).halted hw)
  | true =>
    cases eq_instr_of_form_eq ((writesHalted_iff i.form).mp hw)
    cases h
    exact .inr ⟨rfl, rfl⟩

/-- Dispatch clears IME and `halted` (60_exceptions.md R471). -/
theorem dispatchIrq_control {src : IrqSource} (h : dispatchIrq src s = .next t) :
    t.cpu.ime = false ∧ t.cpu.halted = false := by
  obtain ⟨u, hu, rfl⟩ := dispatchIrq_next h
  rw [State.setPc_ime, State.setPc_halted, (State.pushed_cpu hu).1]
  exact ⟨rfl, rfl⟩

/-- A halted step leaves IME, and clears `halted` only with `HALT_WAKES_WITHOUT_IME` and a request (60_exceptions.md R456). -/
theorem idleStep_control (h : idleStep s = .next t) :
    t.cpu.ime = s.cpu.ime ∧ (t.cpu.halted = s.cpu.halted ∨
      (t.cpu.halted = false ∧ s.params.haltWakes = true ∧ s.irq.ie &&& s.irq.iflag &&& 0x1F ≠ 0)) := by
  unfold idleStep at h
  split at h <;> rw [finish_next h]
  next hwake =>
    rw [Bool.and_eq_true, decide_eq_true_eq] at hwake
    exact ⟨rfl, .inr ⟨rfl, hwake⟩⟩
  next => exact ⟨rfl, .inl rfl⟩

theorem takenIrq_eq_some {src : IrqSource} : takenIrq s = some src ↔ s.cpu.ime = true ∧ pendingSource s.irq = some src := by
  unfold takenIrq; split <;> simp [*]

/-- What a CPU step can do to IME. -/
theorem cpuStep_ime (h : cpuStep s = .next t) :
    t.cpu.ime = s.cpu.ime ∨
    (t.cpu.ime = false ∧ ((∃ src, pendingSource s.irq = some src) ∨ fetch s = .ok .di)) ∨
    (t.cpu.ime = true ∧ ∃ i, fetch s = .ok i ∧ (i = .ei ∨ i = .reti)) := by
  obtain ⟨src, hsrc, h⟩ | ⟨-, -, h⟩ | ⟨-, -, i, hi, h, -⟩ := cpuStep_next h
  · exact .inr (.inl ⟨(dispatchIrq_control h).1, .inl ⟨src, (takenIrq_eq_some.mp hsrc).2⟩⟩)
  · exact .inl (idleStep_control h).1
  · obtain hk | ⟨rfl, ht⟩ | ⟨hi', ht⟩ := exec_ime h
    · exact .inl hk
    · exact .inr (.inl ⟨ht, .inr hi⟩)
    · exact .inr (.inr ⟨ht, i, hi, hi'⟩)

/-- What a CPU step can do to `halted`. -/
theorem cpuStep_halted (h : cpuStep s = .next t) :
    t.cpu.halted = s.cpu.halted ∨
    (t.cpu.halted = false ∧ ((s.cpu.ime = true ∧ ∃ src, pendingSource s.irq = some src) ∨
      (s.params.haltWakes = true ∧ s.irq.ie &&& s.irq.iflag &&& 0x1F ≠ 0))) ∨
    (t.cpu.halted = true ∧ fetch s = .ok .halt) := by
  obtain ⟨src, hsrc, h⟩ | ⟨-, -, h⟩ | ⟨-, -, i, hi, h, -⟩ := cpuStep_next h
  · obtain ⟨hime, hsrc⟩ := takenIrq_eq_some.mp hsrc
    exact .inr (.inl ⟨(dispatchIrq_control h).2, .inl ⟨hime, src, hsrc⟩⟩)
  · obtain ⟨-, hk | ⟨ht, hwake⟩⟩ := idleStep_control h
    · exact .inl hk
    · exact .inr (.inl ⟨ht, .inr hwake⟩)
  · obtain hk | ⟨rfl, ht⟩ := exec_halted h
    · exact .inl hk
    · exact .inr (.inr ⟨ht, hi⟩)

end

/-- Settles O46: the ticks change no CPU register, so a step does to IME and `halted` what its CPU step does. -/
theorem controlBits : Obligations.ControlBits := by
  intro s t h
  obtain ⟨u, hu, ht⟩ := step_next h
  rw [(ticks_frame ht).1]
  have hime := cpuStep_ime hu
  have hhalted := cpuStep_halted hu
  refine ⟨fun hpre hpost => ?_, fun hpre hpost => ?_, fun hpre hpost => ?_, fun hpre hpost => ?_⟩
  · simpa [hpre, hpost] using hime
  · simpa [hpre, hpost] using hime
  · simpa [hpre, hpost] using hhalted
  · simpa [hpre, hpost] using hhalted

end Sys2Proof.Machine

/-! ### The pair views -/

namespace Sys2Proof.Machine

/-- Settles O14: the views and their writes are the model's definitions; that a pair reads back is `State.setPair_pair`. -/
theorem pairViews : Obligations.PairViews := fun s v =>
  ⟨⟨rfl, rfl, rfl, rfl, rfl, rfl, rfl⟩, rfl, rfl, rfl, rfl, ⟨rfl, rfl, rfl⟩, rfl, fun p => State.setPair_pair s p v⟩

end Sys2Proof.Machine

/-! ### Frames outside the CPU registers -/

namespace Sys2Proof.Machine

theorem StoredAt.of_exec {f : Form} {s t : State} (h : exec f.instr s = .next t) : StoredAt (f.storeAddrs s) s t :=
  Form.form_instr f ▸ exec_stored h

/-- Settles O39: with no store address there is no bus write, and nothing differs outside the CPU registers. -/
theorem frameNoStore : Obligations.FrameNoStore := by
  intro f s t hno h
  have hs := StoredAt.of_exec h
  rw [hno] at hs
  exact ⟨hs, SameOutsideCpu.peek hs⟩

/-- `t` has the picture of `s`, and its PPU is at the same line, dot and mode (60_exceptions.md R500, R552). -/
structure SamePicture (s t : State) : Prop where
  fb : t.ppu.fb = s.ppu.fb
  dot : t.ppu.dot = s.ppu.dot
  mode : t.ppu.mode = s.ppu.mode
  ly : t.ppu.ly = s.ppu.ly

theorem SamePicture.refl (s : State) : SamePicture s s := ⟨rfl, rfl, rfl, rfl⟩

theorem SamePicture.trans {s t u : State} (h : SamePicture s t) (h' : SamePicture t u) : SamePicture s u :=
  ⟨h'.fb.trans h.fb, h'.dot.trans h.dot, h'.mode.trans h.mode, h'.ly.trans h.ly⟩

theorem SamePicture.of_sameOutsideCpu {s t : State} (h : SameOutsideCpu s t) : SamePicture s t := by
  rw [h]; exact ⟨rfl, rfl, rfl, rfl⟩

theorem SamePicture.of_busWrite {a : Word} {v : Byte} {s t : State} (h : busWrite a v s = .ok t) : SamePicture s t := by
  obtain ⟨-, -, -, -, -, -, hfb, hdot, hmode, hly, -⟩ := busWrite_frame h
  exact ⟨hfb, hdot, hmode, hly⟩

theorem StoredAt.sameConfiguration {as : List Word} {s t : State} (h : StoredAt as s t) : SameConfiguration s t :=
  h.keep (P := SameConfiguration s) (fun _ _ hs hc => hs.trans (.of_sameOutsideCpu hc))
    (fun _ _ _ _ hs hw => hs.trans (.of_busWrite hw)) (.refl s)

theorem StoredAt.samePicture {as : List Word} {s t : State} (h : StoredAt as s t) : SamePicture s t :=
  h.keep (P := SamePicture s) (fun _ _ hs hc => hs.trans (.of_sameOutsideCpu hc))
    (fun _ _ _ _ hs hw => hs.trans (.of_busWrite hw)) (.refl s)

/-- Settles O40: outside the CPU registers a form only makes the bus writes at its store addresses, and no bus write changes the
configuration, the picture or the reading of an address it does not touch. -/
theorem frameStores : Obligations.FrameStores := by
  intro f s t h
  have hs := StoredAt.of_exec h
  have hc := hs.sameConfiguration
  obtain ⟨hfb, hdot, hmode, hly⟩ := hs.samePicture
  exact ⟨fun _ => hs.peek, hc.params, hc.rom, hc.romLen, hfb, hdot, hmode, hly⟩

end Sys2Proof.Machine

/-! ### The rows of the bus dispatch -/

namespace Sys2Proof.Machine

/-- An address among a target's addresses selects it: the dispatch passes over every row before the target's
(20_memory.md R80, R81). -/
theorem busTarget_eq {o w : Bool} {a : Word} {x : Target} (h : TargetAt o w a.toNat x) : busTarget o w a = x := by
  unfold busTarget
  generalize a.toNat = n at *
  cases x <;> simp only [TargetAt] at h
  case boot => obtain ⟨ho, rfl, hn⟩ := h; exact if_pos ⟨ho, hn⟩
  case rom =>
    obtain ⟨rfl, hn, ho⟩ := h
    exact (if_neg fun hb => Nat.not_lt_of_le (ho hb.1) hb.2).trans (if_pos hn)
  case unmapped =>
    rcases h with h | ⟨hlo, hhi, hw⟩ | h | h | h | h | h
    case inr.inl => simp (disch := omega) only [if_neg, if_pos, hw, Bool.false_eq_true, if_false]
    all_goals simp (disch := omega) only [if_neg, if_pos]
  all_goals simp (disch := omega) only [if_neg, if_pos, if_true, h]

section
variable {s : State} {a : Word}

theorem State.target_eq {x : Target} (hx : TargetAt s.overlay s.params.oamWindow a.toNat x) : s.target a = x :=
  busTarget_eq hx

theorem State.target_eq_iff {x : Target} : s.target a = x ↔ TargetAt s.overlay s.params.oamWindow a.toNat x :=
  ⟨fun h => h ▸ s.target_spec a, State.target_eq⟩

theorem State.target_unmapped_iff : s.target a = .unmapped ↔ unmappedAddr s.params.oamWindow a := by
  simp only [State.target_eq_iff, TargetAt, unmappedAddr, ← Nat.lt_succ_iff]

theorem State.target_bootOff_iff : s.target a = .bootOff ↔ a = 0xFF50 :=
  State.target_eq_iff.trans (BitVec.toNat_inj (y := 0xFF50))

theorem ppuRegAt_index (r : PpuReg) : ppuRegAt r.index = r := by cases r <;> rfl

theorem PpuReg.index_lt (r : PpuReg) : r.index < 12 := by cases r <;> decide

theorem State.target_ppu_iff {r : PpuReg} : s.target a = .ppu r ↔ a.toNat = 0xFF40 + r.index := by
  have hr := r.index_lt
  rw [State.target_eq_iff]
  constructor
  · intro ⟨hreg, hlo, hhi⟩
    have hk : r.index = a.toNat - 0xFF40 := hreg ▸ index_ppuRegAt (by omega)
    omega
  · intro h
    have hk : a.toNat - 0xFF40 = r.index := by omega
    exact ⟨by rw [hk, ppuRegAt_index], by omega, by omega⟩

end

/-! ### Which accesses fault `Unmapped` -/

section
variable {s : State} {a : Word} {v : Byte}

theorem busRead_unmapped_iff {g : Agent} :
    (∃ x t, busRead g a s = .error (.unmapped g x t)) ↔ s.target a = .unmapped ∨ s.target a = .bootOff := by
  unfold busRead
  cases s.target a
  case rom | romBank | cartRam => dsimp only; split <;> simp
  all_goals simp

/-- The faults of a write of the DMA register are its own kinds (60_exceptions.md R562, R564). -/
theorem writeDma_ne_unmapped {g : Agent} {x : Access} {t : State} : writeDma v s ≠ .error (.unmapped g x t) := by
  unfold writeDma
  split
  · nofun
  · split <;> nofun

theorem busWrite_unmapped_iff :
    (∃ x t, busWrite a v s = .error (.unmapped .cpu x t)) ↔
      s.target a = .unmapped ∨ (∃ off, s.target a = .romBank off) ∨ s.target a = .ppu .ly := by
  unfold busWrite
  cases s.target a
  case ppu r => cases r <;> simp [writePpu, writeDma_ne_unmapped]
  case cartRam | sound => dsimp only; split <;> simp
  all_goals simp

end

/-- Settles O43: an access faults `Unmapped` where its address selects a target without that access. -/
theorem unmappedExactly : Obligations.UnmappedExactly := by
  intro s a v
  have hbank : (∃ off, s.target a = .romBank off) ↔ 0x4000 ≤ a.toNat ∧ a.toNat ≤ 0x7FFF := by
    simp only [State.target_eq_iff, TargetAt, exists_eq_left, ← Nat.lt_succ_iff]
  have hly : s.target a = .ppu .ly ↔ a = 0xFF44 := State.target_ppu_iff.trans (BitVec.toNat_inj (y := 0xFF44))
  exact ⟨fun g => by rw [busRead_unmapped_iff, State.target_unmapped_iff, State.target_bootOff_iff],
    by rw [busWrite_unmapped_iff, State.target_unmapped_iff, hbank, hly]⟩

/-! ### Plain RAM -/

/-- A write to plain RAM touches its own address alone: the control addresses are elsewhere (20_memory.md R87). -/
theorem touches_of_plainRam {a b : Word} (ha : plainRam a) (hb : b ≠ a) : touches a b = false := by
  have hoff : a ≠ 0xFF50 := by rintro rfl; exact absurd ha (by unfold plainRam; decide)
  unfold plainRam at ha
  simp only [touches, hb, hoff, decide_false, Bool.false_or, Bool.false_and, Bool.or_false, Bool.or_eq_false_iff,
    Bool.and_eq_false_iff, decide_eq_false_iff_not]
  omega

/-- Settles O44: the byte written is there to read, and the write touches no other address. -/
theorem ramReadsBack : Obligations.RamReadsBack := by
  intro s a v ha
  have hrange : (0x8000 ≤ a.toNat ∧ a.toNat < 0xA000) ∨ (0xC000 ≤ a.toNat ∧ a.toNat < 0xE000) ∨
      (0xFF80 ≤ a.toNat ∧ a.toNat < 0xFFFF) := by
    unfold plainRam at ha; omega
  obtain ⟨t, ht, hread⟩ := busWrite_ram v s hrange
  exact ⟨t, ht, hread, fun b hb => busWrite_peek_other ht (touches_of_plainRam ha hb)⟩

end Sys2Proof.Machine

/-! ### The read dispatch -/

namespace Sys2Proof.Machine

section
variable {s : State} {a : Word} {g : Agent}

/-- At an address of a target the bus reads, for either agent, the byte of the target. -/
theorem busRead_of_targetAt {x : Target} {v : Byte} (hx : TargetAt s.overlay s.params.oamWindow a.toNat x)
    (hv : s.peekAt x = some v) : busRead g a s = .ok v := by
  rw [busRead_agent, State.peek_def, State.target_eq hx, hv]

theorem busRead_ppu {r : PpuReg} (h : a.toNat = 0xFF40 + r.index) : busRead g a s = .ok (readPpu s.ppu r) :=
  busRead_of_targetAt (State.target_eq_iff.mp (State.target_ppu_iff.mpr h)) rfl

theorem busRead_of_unmapped (h : unmappedAddr s.params.oamWindow a ∨ a.toNat = 0xFF50) :
    busRead g a s = .error (.unmapped g (.read a) s) := by
  obtain h | h := h
  · rw [busRead, State.target_unmapped_iff.mpr h]
  · rw [busRead, State.target_eq (x := .bootOff) h]

/-- The gate of battery RAM as its two conditions (20_memory.md R116, R119). -/
theorem State.ramOpen_eq_true (hsize : 0 < s.ramSize) (hen : s.cart.ramEnabled = true) : s.ramOpen = true := by
  simp [State.ramOpen, hsize, hen]

theorem State.ramOpen_eq_false (h : s.ramSize = 0 ∨ s.cart.ramEnabled = false) : s.ramOpen = false := by
  obtain h | h := h <;> simp [State.ramOpen, h]

/-- The fixed ROM row with its bound (20_memory.md R114). -/
theorem busRead_rom (hov : ¬(s.overlay = true ∧ a.toNat ≤ 0xFF)) (hn : a.toNat ≤ 0x3FFF) :
    busRead g a s =
      if a.toNat < s.cart.romLen then .ok (Memory.read s.cart.rom a.toNat) else .error (.romBounds g a 0 s) := by
  have hx : s.target a = .rom a.toNat :=
    State.target_eq ⟨rfl, by omega, fun ho => Nat.lt_of_not_le fun hle => hov ⟨ho, hle⟩⟩
  rw [busRead, hx]

/-- The banked ROM row with its bound (20_memory.md R115). -/
theorem busRead_romBank (hlo : 0x4000 ≤ a.toNat) (hhi : a.toNat ≤ 0x7FFF) :
    busRead g a s =
      if romOffset s.cart (a.toNat - 0x4000) < s.cart.romLen then
        .ok (Memory.read s.cart.rom (romOffset s.cart (a.toNat - 0x4000)))
      else .error (.romBounds g a s.cart.bank s) := by
  have hx : s.target a = .romBank (a.toNat - 0x4000) := State.target_eq ⟨rfl, hlo, by omega⟩
  rw [busRead, hx]

/-- The battery RAM row with its gate (20_memory.md R116). -/
theorem busRead_cartRam (hlo : 0xA000 ≤ a.toNat) (hhi : a.toNat ≤ 0xBFFF) :
    busRead g a s =
      if s.ramOpen then .ok (Memory.read s.cart.ram (a.toNat - 0xA000)) else .error (.cartRam g (.read a) s) := by
  have hx : s.target a = .cartRam (a.toNat - 0xA000) := State.target_eq ⟨rfl, hlo, by omega⟩
  rw [busRead, hx]

end

/-- The fields of the byte that STAT reads as (60_exceptions.md R520). -/
theorem readPpu_stat_bits (p : Ppu) :
    (readPpu p .stat).getLsbD 7 = Config.statBit7 ∧ (readPpu p .stat).extractLsb' 3 4 = p.statSel ∧
      (readPpu p .stat).getLsbD 2 = p.coincidence ∧ (readPpu p .stat).extractLsb' 0 2 = modeBits p.mode := by
  simp only [readPpu]
  generalize Config.statBit7 = b7, p.statSel = sel, p.coincidence = c, modeBits p.mode = m
  revert b7 sel c m
  decide

/-- Settles O41: each row is the read of the target that the row's addresses select. -/
theorem busReads : Obligations.BusReads := by
  intro g s a
  exact
    ⟨fun ho h => busRead_of_targetAt (x := .boot _) ⟨ho, rfl, by omega⟩ rfl,
      fun ho h => ⟨fun hl => (busRead_rom ho h).trans (if_pos hl),
        fun hl => (busRead_rom ho h).trans (if_neg (Nat.not_lt.mpr hl))⟩,
      fun h h' => ⟨fun hl => (busRead_romBank h h').trans (if_pos hl),
        fun hl => (busRead_romBank h h').trans (if_neg (Nat.not_lt.mpr hl))⟩,
      fun h h' => busRead_of_targetAt (x := .vram _) ⟨rfl, h, by omega⟩ rfl,
      fun h h' => ⟨fun hs he => (busRead_cartRam h h').trans (if_pos (State.ramOpen_eq_true hs he)),
        fun hc => (busRead_cartRam h h').trans (by rw [State.ramOpen_eq_false hc]; rfl)⟩,
      fun h h' => busRead_of_targetAt (x := .wram _) ⟨rfl, h, by omega⟩ rfl,
      fun hw h h' => busRead_of_targetAt (x := .oam _) ⟨hw, rfl, h, by omega⟩ rfl,
      fun h => busRead_of_targetAt (x := .joyp) h rfl,
      fun h => busRead_of_targetAt (x := .serialData) h rfl,
      fun h => busRead_of_targetAt (x := .serialControl) h rfl,
      fun h => busRead_of_targetAt (x := .div) h rfl,
      fun h => busRead_of_targetAt (x := .tima) h rfl,
      fun h => busRead_of_targetAt (x := .tma) h rfl,
      fun h => busRead_of_targetAt (x := .tac) h rfl,
      fun h => busRead_of_targetAt (x := .iflag) h rfl,
      fun h h' => busRead_of_targetAt (x := .sound _) ⟨rfl, h, by omega⟩ rfl,
      busRead_ppu (r := .lcdc),
      fun h => ⟨_, busRead_ppu (r := .stat) h, readPpu_stat_bits s.ppu⟩,
      busRead_ppu (r := .scy), busRead_ppu (r := .scx), busRead_ppu (r := .ly), busRead_ppu (r := .lyc),
      busRead_ppu (r := .dma), busRead_ppu (r := .bgp), busRead_ppu (r := .obp0), busRead_ppu (r := .obp1),
      busRead_ppu (r := .wy), busRead_ppu (r := .wx),
      fun h h' => busRead_of_targetAt (x := .hram _) ⟨rfl, h, by omega⟩ rfl,
      fun h => busRead_of_targetAt (x := .ie) h rfl,
      busRead_of_unmapped⟩

end Sys2Proof.Machine

/-! ### The write dispatch -/

namespace Sys2Proof.Machine

/-- Bits 3:0 of a byte as a number (20_memory.md R117). -/
theorem and_0x0F_eq_0x0A_iff (v : Byte) : v &&& 0x0F = 0x0A ↔ v.toNat % 16 = 0x0A := by
  revert v; decide

/-- The bank a select of `v` gives: never bank 0 (20_memory.md R118). -/
theorem ofNat_max_one (v : Byte) : BitVec.ofNat 8 (max v.toNat 1) = if v = 0 then 1 else v := by
  revert v; decide

section
variable {s : State} {a : Word} {v : Byte}

/-- A write below 0x4000 is a cartridge control write, overlay or not (20_memory.md R81, R117, R118). -/
theorem busWrite_cartControl (h : a.toNat < 0x4000) :
    busWrite a v s = .ok { s with cart := writeCartControl a.toNat v s.cart } := by
  by_cases hb : s.overlay = true ∧ a.toNat < 0x100
  · rw [busWrite, State.target_eq (x := .boot a.toNat) ⟨hb.1, rfl, hb.2⟩]
  · have hrom : s.target a = .rom a.toNat :=
      State.target_eq ⟨rfl, h, fun ho => Nat.le_of_not_lt fun hn => hb ⟨ho, hn⟩⟩
    rw [busWrite, hrom]

theorem busWrite_ppu {r : PpuReg} (h : a.toNat = 0xFF40 + r.index) : busWrite a v s = writePpu a r v s := by
  rw [busWrite, State.target_ppu_iff.mpr h]

theorem writeCartControl_gate {off : Nat} (h : off ≤ 0x1FFF) (c : Cart) :
    writeCartControl off v c = { c with ramEnabled := decide (v.toNat % 16 = 0x0A) } := by
  rw [writeCartControl, if_pos (Nat.lt_succ_of_le h), decide_eq_decide.mpr (and_0x0F_eq_0x0A_iff v)]

theorem writeCartControl_bank {off : Nat} (h : 0x2000 ≤ off) (c : Cart) :
    writeCartControl off v c = { c with bank := BitVec.ofNat 8 (max v.toNat 1) } := by
  rw [writeCartControl, if_neg (Nat.not_lt.mpr h), ofNat_max_one]

/-- The battery RAM row with its gate (20_memory.md R119). -/
theorem busWrite_cartRam (hlo : 0xA000 ≤ a.toNat) (hhi : a.toNat ≤ 0xBFFF) :
    busWrite a v s =
      if s.ramOpen then .ok { s with cart := { s.cart with ram := Memory.write s.cart.ram (a.toNat - 0xA000) v } }
      else .error (.cartRam .cpu (.write a v) s) := by
  rw [busWrite, State.target_eq (x := .cartRam _) ⟨rfl, hlo, by omega⟩]

/-- The sound row with the sound unit's validation (60_exceptions.md R572). -/
theorem busWrite_sound (hlo : 0xFF10 ≤ a.toNat) (hhi : a.toNat ≤ 0xFF3F) :
    busWrite a v s =
      if (a, v) ∈ s.params.soundRefused then .error (.soundRejected .cpu a v s)
      else .ok { s with ports := { s.ports with sound := Memory.write s.ports.sound (a.toNat - 0xFF10) v } } := by
  rw [busWrite, State.target_eq (x := .sound _) ⟨rfl, hlo, by omega⟩]

theorem busWrite_of_unmapped (h : unmappedAddr s.params.oamWindow a) :
    busWrite a v s = .error (.unmapped .cpu (.write a v) s) := by
  rw [busWrite, State.target_unmapped_iff.mpr h]

end

/-- Settles O42: each row is the write of the target that the row's addresses select. -/
theorem busWrites : Obligations.BusWrites := by
  intro s a v
  exact
    ⟨fun h => by rw [busWrite_cartControl (by omega), writeCartControl_gate h],
      fun h h' => by rw [busWrite_cartControl (by omega), writeCartControl_bank h],
      fun h h' => by rw [busWrite, State.target_eq (x := .romBank _) ⟨rfl, h, by omega⟩],
      fun h h' => by rw [busWrite, State.target_eq (x := .vram _) ⟨rfl, h, by omega⟩],
      fun h h' => ⟨fun hs he => (busWrite_cartRam h h').trans (if_pos (State.ramOpen_eq_true hs he)),
        fun hc => (busWrite_cartRam h h').trans (by rw [State.ramOpen_eq_false hc]; rfl)⟩,
      fun h h' => by rw [busWrite, State.target_eq (x := .wram _) ⟨rfl, h, by omega⟩],
      fun hw h h' => by rw [busWrite, State.target_eq (x := .oam _) ⟨hw, rfl, h, by omega⟩],
      fun h => by rw [busWrite, State.target_eq (x := .joyp) h],
      fun h => by rw [busWrite, State.target_eq (x := .serialData) h],
      fun h => by rw [busWrite, State.target_eq (x := .serialControl) h],
      fun h => by rw [busWrite, State.target_eq (x := .div) h],
      fun h => by rw [busWrite, State.target_eq (x := .tima) h],
      fun h => by rw [busWrite, State.target_eq (x := .tma) h],
      fun h => by rw [busWrite, State.target_eq (x := .tac) h],
      fun h => by rw [busWrite, State.target_eq (x := .iflag) h],
      fun h h' => ⟨fun ha => (busWrite_sound h h').trans (if_neg ha), fun hr => (busWrite_sound h h').trans (if_pos hr)⟩,
      busWrite_ppu (r := .lcdc), busWrite_ppu (r := .stat), busWrite_ppu (r := .scy), busWrite_ppu (r := .scx),
      busWrite_ppu (r := .lyc), busWrite_ppu (r := .bgp), busWrite_ppu (r := .obp0), busWrite_ppu (r := .obp1),
      busWrite_ppu (r := .wy), busWrite_ppu (r := .wx),
      fun h => by rw [busWrite, State.target_eq (x := .bootOff) h],
      fun h h' => by rw [busWrite, State.target_eq (x := .hram _) ⟨rfl, h, by omega⟩],
      fun h => by rw [busWrite, State.target_eq (x := .ie) h],
      busWrite_of_unmapped⟩

end Sys2Proof.Machine

/-! ### Encoding and decoding -/

namespace Sys2Proof

open Machine

/-- A 3-byte opcode decodes its word operand from its two bytes, low byte first (30_encoding.md R152). -/
theorem decode_imm16 {op : Byte} {f : Word → Instr} (hlen : opcodeLength op = 3)
    (hf : ∀ b1 b2, decodeInstr op b1 b2 = f (wordOf b2 b1)) (nn : Word) (rest : List Byte) :
    decode (op :: loByte nn :: hiByte nn :: rest) = .ok (f nn, rest) := by
  simp only [decode, hlen, hf, wordOf_hi_lo]

/-- Settles O1, row by row of the opcode maps: a word operand comes back from its bytes, a byte operand is its byte. -/
theorem decodeEncode : Obligations.DecodeEncode := by
  intro i rest hwf
  cases i with
  | prefixCb c => cases hwf
  | ldBcImm16 nn | ldDeImm16 nn | ldHlImm16 nn | ldSpImm16 nn | ldMImm16Sp nn | ldMImm16A nn | ldAMImm16 nn
  | jpImm16 nn | jpNzImm16 nn | jpZImm16 nn | jpNcImm16 nn | jpCImm16 nn
  | callImm16 nn | callNzImm16 nn | callZImm16 nn | callNcImm16 nn | callCImm16 nn =>
    exact decode_imm16 rfl (fun _ _ => rfl) nn rest
  | _ => rfl

/-- Settles O3: each word is the encoding of its instruction. -/
theorem opcodeSamples : Obligations.OpcodeSamples :=
  ⟨decodeEncode .ldBC [] rfl, decodeEncode (.ldAImm8 0x7F) [] rfl, decodeEncode (.ldhMNA 0x50) [] rfl,
    decodeEncode (.ldSpImm16 0xFFFE) [] rfl, decodeEncode .popAf [] rfl, decodeEncode .adcAE [] rfl,
    decodeEncode (.cpImm8 0x40) [] rfl, decodeEncode .decMHl [] rfl, decodeEncode .addHlSp [] rfl, decodeEncode .rra [] rfl,
    decodeEncode .swapA [] rfl, decodeEncode .bit7H [] rfl, decodeEncode .set3MHl [] rfl,
    decodeEncode (.callCImm16 0x2000) [] rfl, decodeEncode (.jrNzRel 0xFB) [] rfl, decodeEncode .halt [] rfl,
    decodeEncode .illegalD3 [] rfl⟩

/-! ### The bytes of what is decoded

By the quarters x of the first-byte map and, in the quarters with operands, by its cells. -/

theorem fields_append (op : Byte) : fieldX op ++ fieldY op ++ fieldZ op = op := by
  revert op; decide

theorem bitVec2_cases (x : BitVec 2) : x = 0 ∨ x = 1 ∨ x = 2 ∨ x = 3 := by
  revert x; decide

theorem bitVec3_cases (y : BitVec 3) : y = 0 ∨ y = 1 ∨ y = 2 ∨ y = 3 ∨ y = 4 ∨ y = 5 ∨ y = 6 ∨ y = 7 := by
  revert y; decide

theorem opcodeLength_bounds (op : Byte) : 1 ≤ opcodeLength op ∧ opcodeLength op ≤ 3 := by
  revert op; decide

/-- The form is well formed and these are the bytes of its instruction. -/
def Form.EncodedBy (f : Form) (bs : List Byte) : Prop := f.wellFormed = true ∧ encode f.instr = bs

/-- The bytes of the instruction that an opcode byte begins: of it and two bytes after it, as many as its length says
(30_encoding.md R162). -/
def instrBytes (op b1 b2 : Byte) : List Byte := [op, b1, b2].take (opcodeLength op)

theorem instrBytes_of_length_one {op : Byte} (h : opcodeLength op = 1) (b1 b2 : Byte) : instrBytes op b1 b2 = [op] := by
  rw [instrBytes, h]; rfl

/-- The CB page (30_encoding.md R161). -/
theorem decodeCb_encodedBy (c : Byte) : (decodeCb c).EncodedBy [0xCB, c] := by
  unfold Form.EncodedBy; revert c; decide

section
variable {op : Byte}

/-- Every cell of the quarter x = 0 is a row of its own. -/
theorem decodeX0_encodedBy (hx : fieldX op = 0) (nn : Word) :
    (decodeX0 op (loByte nn) nn).EncodedBy (instrBytes op (loByte nn) (hiByte nn)) := by
  rw [← fields_append op, hx]
  generalize fieldY op = y, fieldZ op = z
  rcases bitVec3_cases z with rfl | rfl | rfl | rfl | rfl | rfl | rfl | rfl <;>
    rcases bitVec3_cases y with rfl | rfl | rfl | rfl | rfl | rfl | rfl | rfl <;> exact ⟨rfl, rfl⟩

/-- The loads between r8 operands, and HALT, are their opcode byte alone. -/
theorem decodeLoad_encodedBy (hx : fieldX op = 1) (b1 b2 : Byte) :
    (decodeLoad (operandR8 (fieldY op)) (operandR8 (fieldZ op))).EncodedBy (instrBytes op b1 b2) := by
  rw [instrBytes_of_length_one (by revert op; decide)]
  unfold Form.EncodedBy; revert op; decide

/-- The ALU operations with an r8 operand are their opcode byte alone. -/
theorem decodeAlu_encodedBy (hx : fieldX op = 2) (b1 b2 : Byte) :
    (Form.alu (operandAlu (fieldY op)) (aluSource (operandR8 (fieldZ op)))).EncodedBy (instrBytes op b1 b2) := by
  rw [instrBytes_of_length_one (by revert op; decide)]
  unfold Form.EncodedBy; revert op; decide

/-- The cell 0xCB has the CB page behind it; every other cell is a row of its own. -/
theorem decodeX3_encodedBy (hx : fieldX op = 3) (nn : Word) :
    (decodeX3 op (loByte nn) nn).EncodedBy (instrBytes op (loByte nn) (hiByte nn)) := by
  rw [← fields_append op, hx]
  generalize fieldY op = y, fieldZ op = z
  rcases bitVec3_cases z with rfl | rfl | rfl | rfl | rfl | rfl | rfl | rfl <;>
    rcases bitVec3_cases y with rfl | rfl | rfl | rfl | rfl | rfl | rfl | rfl
  any_goals exact ⟨rfl, rfl⟩
  exact decodeCb_encodedBy (loByte nn)

end

/-- The two bytes after the opcode are taken as the halves of the word they make. -/
theorem decodeForm_encodedBy (op b1 b2 : Byte) : (decodeForm op b1 b2).EncodedBy (instrBytes op b1 b2) := by
  obtain ⟨nn, rfl, rfl⟩ : ∃ nn, b1 = loByte nn ∧ b2 = hiByte nn :=
    ⟨wordOf b2 b1, (loByte_wordOf b2 b1).symm, (hiByte_wordOf b2 b1).symm⟩
  unfold decodeForm
  rw [wordOf_hi_lo]
  obtain hx | hx | hx | hx := bitVec2_cases (fieldX op) <;> simp only [hx]
  · exact decodeX0_encodedBy hx nn
  · exact decodeLoad_encodedBy hx _ _
  · exact decodeAlu_encodedBy hx _ _
  · exact decodeX3_encodedBy hx nn

theorem encode_decodeInstr (op b1 b2 : Byte) : encode (decodeInstr op b1 b2) = instrBytes op b1 b2 :=
  (decodeForm_encodedBy op b1 b2).2

theorem wellFormed_decodeInstr (op b1 b2 : Byte) : (decodeInstr op b1 b2).wellFormed = true := by
  rw [Instr.wellFormed, decodeInstr, Form.form_instr]
  exact (decodeForm_encodedBy op b1 b2).1

/-- The length of a decoded instruction is the one its opcode names (30_encoding.md R150, R162). -/
theorem length_decodeInstr (op b1 b2 : Byte) : (decodeInstr op b1 b2).length = opcodeLength op := by
  rw [Instr.length, encode_decodeInstr, instrBytes, List.length_take]
  exact Nat.min_eq_left (opcodeLength_bounds op).2

/-- What decodes is the instruction of the opcode byte at the head, read from that instruction's bytes. -/
theorem decode_eq_ok {bs : List Byte} {i : Instr} {rest : List Byte} (h : decode bs = .ok (i, rest)) :
    ∃ op b1 b2, bs.head? = some op ∧ i = decodeInstr op b1 b2 ∧ bs = instrBytes op b1 b2 ++ rest := by
  cases bs with
  | nil => cases h
  | cons op more =>
    unfold decode at h
    dsimp only at h
    split at h <;> cases h <;> exact ⟨op, _, _, rfl, rfl, by simp [instrBytes, *]⟩

/-- Settles O2: what decodes is encoded by its own bytes, and its opcode byte names its length. -/
theorem encodeDecode : Obligations.EncodeDecode := by
  intro bs i rest h
  obtain ⟨op, b1, b2, hop, rfl, hbs⟩ := decode_eq_ok h
  obtain ⟨hmin, hmax⟩ := opcodeLength_bounds op
  rw [length_decodeInstr, encode_decodeInstr]
  refine ⟨hbs.symm, wellFormed_decodeInstr op b1 b2, hmin, hmax, fun bs' j rest' hhead h' => ?_⟩
  obtain ⟨op', b1', b2', hop', rfl, -⟩ := decode_eq_ok h'
  obtain rfl : op' = op := Option.some.inj (hop'.symm.trans (hhead.trans hop))
  exact length_decodeInstr op' b1' b2'

/-! ### The row 0xCB -/

theorem operandR8_eq_mhl_iff (i : BitVec 3) : operandR8 i = .mhl ↔ i = 6 := by
  revert i; decide

/-- Plain RAM answers a read (20_memory.md R90 to R92). -/
theorem Machine.State.exists_peek_of_plainRam {s : State} {a : Word} (ha : plainRam a) : ∃ v, s.peek a = some v := by
  simp only [← busRead_agent (g := .cpu)]
  obtain ⟨hlo, hhi⟩ | ⟨hlo, hhi⟩ | ⟨hlo, hhi⟩ := ha
  · exact ⟨_, busRead_of_targetAt (x := .vram _) ⟨rfl, hlo, by omega⟩ rfl⟩
  · exact ⟨_, busRead_of_targetAt (x := .wram _) ⟨rfl, hlo, by omega⟩ rfl⟩
  · exact ⟨_, busRead_of_targetAt (x := .hram _) ⟨rfl, hlo, by omega⟩ rfl⟩

/-- An operand r8 that is a register or plain RAM can be read and written. -/
theorem Operand8.accessible {t : Operand8} {s : State} (h : t ≠ .mhl ∨ plainRam s.hl) :
    (∃ v, t.value s = some v) ∧ ∀ v, ∃ u, t.written v s = .ok u := by
  cases t with
  | reg r => exact ⟨⟨_, rfl⟩, fun v => ⟨_, rfl⟩⟩
  | mhl =>
    have ha : plainRam s.hl := h.resolve_left fun hne => hne rfl
    refine ⟨State.exists_peek_of_plainRam ha, fun v => ?_⟩
    obtain ⟨u, hu, -⟩ := ramReadsBack s s.hl v ha
    exact ⟨u, hu⟩

/-- An instruction that reads its operand and writes it back completes where the operand can be accessed. -/
theorem Operand8.update_next {t : Operand8} {s : State} (h : t ≠ .mhl ∨ plainRam s.hl) (f : Byte → Byte)
    (k : Byte → State → State) (n : Nat) :
    ∃ u, (readOperand t s fun v => writeOperand t (f v) s fun w => finish n (k v w)) = .next u := by
  obtain ⟨⟨v, hv⟩, hw⟩ := Operand8.accessible h
  obtain ⟨w, hw⟩ := hw (f v)
  exact ⟨_, by rw [readOperand_ok hv, writeOperand_ok hw]; rfl⟩

/-- A CB row completes where its operand can be accessed. -/
theorem execForm_decodeCb_next {c : Byte} {s : State} (h : operandR8 (fieldZ c) ≠ .mhl ∨ plainRam s.hl) :
    ∃ u, execForm (decodeCb c) s = .next u := by
  unfold decodeCb
  split <;> simp only [execForm]
  · exact Operand8.update_next h _ _ _
  · obtain ⟨⟨v, hv⟩, -⟩ := Operand8.accessible h
    exact ⟨_, readOperand_ok hv _⟩
  · exact Operand8.update_next h _ _ _
  · exact Operand8.update_next h _ _ _

/-- Settles O4: the decoder gives the CB row, and the model's own term has that row's meaning. -/
theorem prefixRow : Obligations.PrefixRow := by
  intro c rest s
  have hexec : exec (.prefixCb c) s = execForm (decodeCb c) s := prefixCb_eq c s
  refine ⟨rfl, length_decodeInstr 0xCB c 0, rfl, hexec.trans (exec_instr _ s).symm, fun h => ?_⟩
  rw [hexec]
  exact execForm_decodeCb_next (h.imp_left fun hz => mt (operandR8_eq_mhl_iff _).mp hz)

/-! ### Faults of the fetch -/

namespace Machine

section
variable {s : State} {e : Fault} {op : Byte}

theorem takenIrq_eq_none (h : s.cpu.ime = true → pendingSource s.irq = none) : takenIrq s = none := by
  unfold takenIrq
  split
  · exact h ‹_›
  · rfl

/-- A fault of the fetch is the fault of the step. -/
theorem step_of_fetch_error (hirq : s.cpu.ime = true → pendingSource s.irq = none) (hrun : s.cpu.halted = false)
    (hf : fetch s = .error e) : step s = .fault e := by
  simp [step, loopTurn, cpuStep, takenIrq_eq_none hirq, hrun, hf, Exec.andThen]

theorem fetchBytes_head_error {n : Nat} {a : Word} (hn : 1 ≤ n) (h : busRead .cpu a s = .error e) :
    fetchBytes n a s = .error e := by
  obtain ⟨k, rfl⟩ := Nat.exists_eq_add_of_le' hn
  rw [fetchBytes, h]

theorem fetchBytes_tail_error {n : Nat} {a : Word} {v : Byte} (hv : busRead .cpu a s = .ok v)
    (h : fetchBytes n (a + 1) s = .error e) : fetchBytes (n + 1) a s = .error e := by
  rw [fetchBytes, hv]; simp only [h]

theorem fetch_opcode_error (h : busRead .cpu s.cpu.pc s = .error e) : fetch s = .error e := by
  rw [fetch, h]

theorem fetch_operand_error (hop : busRead .cpu s.cpu.pc s = .ok op)
    (h : fetchBytes (opcodeLength op - 1) (s.cpu.pc + 1) s = .error e) : fetch s = .error e := by
  rw [fetch, hop]; simp only [h]

end

/-- Settles O6: whichever byte's read faults, the fetch and so the step end with that fault, made in the state before. -/
theorem fetchFault : Obligations.FetchFault := by
  intro s e hirq hrun
  have hstep : fetch s = .error e → step s = .fault e := step_of_fetch_error hirq hrun
  refine ⟨fun h => ⟨hstep (fetch_opcode_error h), busRead_left h⟩, fun op hop hlen h => ?_, fun op b hop hlen hb h => ?_⟩
  · exact ⟨hstep (fetch_operand_error hop (fetchBytes_head_error (Nat.le_sub_of_add_le hlen) h)), busRead_left h⟩
  · have hthird : fetchBytes 1 (s.cpu.pc + 1 + 1) s = .error e := fetchBytes_head_error le_rfl (by rwa [BitVec.add_assoc])
    exact ⟨hstep (fetch_operand_error hop (hlen ▸ fetchBytes_tail_error hb hthird)), busRead_left h⟩

end Machine

end Sys2Proof

/-! ### 8-bit loads -/

namespace Sys2Proof.Machine

theorem encode_ldRegReg (dst src : Reg8) : encode (Form.ldRegReg dst src).instr = [0x40 + 8 * dst.code + src.code] := by
  cases dst <;> cases src <;> rfl

theorem encode_ldRegImm (dst : Reg8) (n : Byte) : encode (Form.ldRegImm dst n).instr = [0x06 + 8 * dst.code, n] := by
  cases dst <;> rfl

theorem encode_ldRegMHl (dst : Reg8) : encode (Form.ldRegMHl dst).instr = [0x46 + 8 * dst.code] := by
  cases dst <;> rfl

theorem encode_ldMHlReg (src : Reg8) : encode (Form.ldMHlReg src).instr = [0x70 + src.code] := by
  cases src <;> rfl

/-- The high page is 0xFF00 and the 256 addresses from there (40_load8.md R209). -/
theorem highPage_eq (n : Byte) : highPage n = 0xFF00 + n.zeroExtend 16 := by
  apply BitVec.eq_of_toNat_eq
  have h : (highPage n).toNat = 256 * 0xFF + n.toNat := wordOf_toNat 0xFF n
  rw [h]; bv_omega

section
variable {f : Form} {a : Word} {v : Byte} {n : Nat} {s : State}

/-- A form whose meaning is one read and then `k` continues with the byte read, or ends with the fault of the read. -/
theorem exec_of_loadThen {k : Byte → Exec} (h : execForm f s = loadThen a s k) :
    (∀ v, s.peek a = some v → exec f.instr s = k v) ∧ (∀ e, busRead .cpu a s = .error e → exec f.instr s = .fault e) := by
  rw [exec_instr, h]
  exact ⟨fun _ hv => loadThen_ok hv k, fun _ he => loadThen_fault he k⟩

/-- A form whose meaning is one write and then `k` continues in the state written, or ends with the fault of the write. -/
theorem exec_of_storeThen {k : State → Exec} (h : execForm f s = storeThen a v s k) :
    (∀ t, busWrite a v s = .ok t → exec f.instr s = k t) ∧ (∀ e, busWrite a v s = .error e → exec f.instr s = .fault e) := by
  rw [exec_instr, h]
  exact ⟨fun _ ht => storeThen_ok ht k, fun _ he => storeThen_fault he k⟩

theorem LoadsByte.of_execForm {dst : Reg8} (h : execForm f s = loadThen a s fun v => finish n (s.setReg dst v)) :
    LoadsByte f a dst n s := exec_of_loadThen h

theorem StoresByte.of_execForm (h : execForm f s = storeThen a v s (finish n)) : StoresByte f a v n s :=
  exec_of_storeThen h

end

/-- Settles O10: the two forms by their meanings, the registers afterwards by the rule for a read after `setReg`. -/
theorem loadRegister : Obligations.LoadRegister := fun dst src n s =>
  ⟨encode_ldRegReg dst src, exec_instr _ s, encode_ldRegImm dst n, exec_instr _ s, fun r => State.setReg_reg s dst r n⟩

/-- Settles O11: each form's meaning is one read at its address and a write of the destination. -/
theorem loadFromMemory : Obligations.LoadFromMemory := by
  intro dst nn n s
  rw [← highPage_eq n, ← highPage_eq s.cpu.c]
  exact ⟨⟨encode_ldRegMHl dst, .of_execForm rfl⟩, ⟨rfl, .of_execForm rfl⟩, ⟨rfl, .of_execForm rfl⟩, ⟨rfl, .of_execForm rfl⟩,
    ⟨rfl, .of_execForm rfl⟩, rfl, .of_execForm rfl⟩

/-- Settles O12: each form's meaning is one write at its address. -/
theorem storeToMemory : Obligations.StoreToMemory := by
  intro src nn n s
  rw [← highPage_eq n, ← highPage_eq s.cpu.c]
  exact ⟨⟨encode_ldMHlReg src, .of_execForm rfl⟩, ⟨rfl, .of_execForm rfl⟩, ⟨rfl, .of_execForm rfl⟩, ⟨rfl, .of_execForm rfl⟩,
    ⟨rfl, .of_execForm rfl⟩, ⟨rfl, .of_execForm rfl⟩, rfl, .of_execForm rfl⟩

/-- Settles O13: each form's meaning is one access at HL, and only what follows it writes A and HL. -/
theorem loadStoreHlStep : Obligations.LoadStoreHlStep := fun s =>
  ⟨⟨rfl, exec_of_storeThen (k := fun t => finish 8 (t.setPair .hl (s.hl + 1))) rfl⟩,
    ⟨rfl, exec_of_storeThen (k := fun t => finish 8 (t.setPair .hl (s.hl - 1))) rfl⟩,
    ⟨rfl, exec_of_loadThen (k := fun v => finish 8 ((s.setReg .a v).setPair .hl (s.hl + 1))) rfl⟩,
    rfl, exec_of_loadThen (k := fun v => finish 8 ((s.setReg .a v).setPair .hl (s.hl - 1))) rfl⟩

end Sys2Proof.Machine

/-! ### 16-bit loads and the stack -/

namespace Sys2Proof.Machine

theorem encode_ldPairImm (p : Pair) (nn : Word) :
    encode (Form.ldPairImm p nn).instr = [0x01 + 16 * p.code, nn.extractLsb' 0 8, nn.extractLsb' 8 8] := by
  cases p <;> rfl

theorem encode_incPair (p : Pair) : encode (Form.incPair p).instr = [0x03 + 16 * p.code] := by cases p <;> rfl

theorem encode_decPair (p : Pair) : encode (Form.decPair p).instr = [0x0B + 16 * p.code] := by cases p <;> rfl

theorem encode_push (p : StackPair) : encode (Form.push p).instr = [0xC5 + 16 * p.code] := by cases p <;> rfl

theorem encode_pop (p : StackPair) : encode (Form.pop p).instr = [0xC1 + 16 * p.code] := by cases p <;> rfl

/-- Writing the four flags leaves F[3:0] and everything outside F (10_state.md R33). -/
theorem SetsFlags.of_setFlags (t : State) (z n h c : Bool) (cycles : Nat) :
    SetsFlags t { t.setFlags z n h c with cycles := cycles } z n h c cycles :=
  ⟨packFlags_z .., packFlags_n .., packFlags_h .., packFlags_c .., packFlags_low .., rfl⟩

/-! What a form does whose meaning is one push or one pop (00_scope.md R17). -/

section
variable {f : Form} {v : Word} {s : State}

/-- A form whose meaning is one push and then `k` continues in the state pushed, or ends with the fault of the push. -/
theorem exec_of_pushThen {k : State → Exec} (h : execForm f s = pushThen v s k) :
    (∀ u, s.pushed v = .ok u → exec f.instr s = k u) ∧ (∀ e, s.pushed v = .error e → exec f.instr s = .fault e) := by
  rw [exec_instr, h]
  exact ⟨fun _ hu => pushThen_ok hu k, fun _ he => by rw [pushThen_eq, he]⟩

/-- A form whose meaning begins with a pop ends with the fault of either read. -/
theorem PopFaults.of_execForm {k : Word → State → Exec} (h : execForm f s = popThen s k) : PopFaults f s := by
  unfold PopFaults
  rw [exec_instr, h]
  refine ⟨fun e he => loadThen_fault he _, fun lo e hlo he => ?_⟩
  unfold popThen
  rw [loadThen_ok (State.peek_eq_some.mpr hlo), loadThen_fault he]

/-- A fault of a push leaves SP decremented for each write attempted (41_load16.md R243). -/
theorem State.pushed_fault_sp {e : Fault} (h : s.pushed v = .error e) :
    e.left.cpu.sp = s.cpu.sp - 1 ∨ e.left.cpu.sp = s.cpu.sp - 2 := by
  unfold State.pushed at h
  split at h
  · exact .inr (by rw [busWrite_left h, State.setSp_sp])
  · cases h
    exact .inl (by rw [busWrite_left ‹_›, State.setSp_sp])

/-- A push to plain RAM completes, and a pop would give the word pushed. -/
theorem State.exists_pushed_of_plainRam (s : State) (v : Word) (h1 : plainRam (s.cpu.sp - 1)) (h2 : plainRam (s.cpu.sp - 2)) :
    ∃ u, s.pushed v = .ok u ∧ u.popped = some v := by
  obtain ⟨t, ht, hhi, -⟩ := ramReadsBack (s.setSp (s.cpu.sp - 1)) (s.cpu.sp - 1) (hiByte v) h1
  obtain ⟨u, hu, hlo, hkeep⟩ := ramReadsBack (t.setSp (s.cpu.sp - 2)) (s.cpu.sp - 2) (loByte v) h2
  have hpushed : s.pushed v = .ok u := by simp only [State.pushed, ht, hu]
  have hsp : u.cpu.sp = s.cpu.sp - 2 := by rw [(State.pushed_cpu hpushed).1]
  have hsp' : u.cpu.sp + 1 = s.cpu.sp - 1 := by rw [hsp]; bv_omega
  have hhi' : u.peek (s.cpu.sp - 1) = some (hiByte v) :=
    (hkeep _ (by bv_omega)).trans ((State.peek_cpu t _ t.cycles _).trans hhi)
  exact ⟨u, hpushed, State.popped_eq_some.mpr ⟨_, _, hsp ▸ hlo, hsp' ▸ hhi', (wordOf_hi_lo v).symm⟩⟩

/-- What a pop gives does not depend on the model's cycle count. -/
theorem State.popped_cycles (s : State) (n : Nat) : State.popped { s with cycles := n } = s.popped := by
  unfold State.popped
  rw [State.peek_cpu s s.cpu n, State.peek_cpu s s.cpu n]

end

/-- Masking the low nibble of a word masks that of its low byte. -/
theorem wordOf_hiByte_masked_loByte (v : Word) : wordOf (hiByte v) (loByte v &&& 0xF0) = v &&& 0xFFF0 :=
  calc wordOf (hiByte v) (loByte v &&& 0xF0)
    _ = wordOf (hiByte v &&& BitVec.allOnes 8) (loByte v &&& 0xF0) := by rw [BitVec.and_allOnes]
    _ = wordOf (hiByte v) (loByte v) &&& wordOf (BitVec.allOnes 8) 0xF0 := BitVec.and_append.symm
    _ = v &&& 0xFFF0 := by rw [wordOf_hi_lo]; rfl

theorem execForm_pop (p : StackPair) (s : State) :
    execForm (.pop p) s = popThen s fun v t => finish 12 (t.setStackPair p v) := rfl

/-- `POP rr` where both bytes can be read (41_load16.md R244). -/
theorem exec_pop_of_popped {s : State} {v : Word} (p : StackPair) (h : s.popped = some v) :
    exec (Form.pop p).instr s = .next { (s.setPair .sp (s.cpu.sp + 2)).setStackPair p v with cycles := 12 } := by
  rw [exec_instr, execForm_pop, popThen_ok h]; rfl

/-- A pair of the table rp2 reads as what was written through it, AF with its low nibble cleared (10_state.md R36). -/
theorem State.setStackPair_stackPair (s : State) (p : StackPair) (v : Word) :
    (s.setStackPair p v).stackPair p = if p = .af then v &&& 0xFFF0 else v := by
  cases p with
  | bc => exact State.setPair_pair s .bc v
  | de => exact State.setPair_pair s .de v
  | hl => exact State.setPair_pair s .hl v
  | af => exact wordOf_hiByte_masked_loByte v

/-- Settles O20: the push leaves its word where the pop reads it, and the popped pair reads as the word written to it. -/
theorem pushPopRoundTrip : Obligations.PushPopRoundTrip := by
  intro p q s h1 h2
  obtain ⟨u, hu, hpop⟩ := s.exists_pushed_of_plainRam (s.stackPair p) h1 h2
  have hpush : exec (Form.push p).instr s = .next { u with cycles := 16 } := (exec_of_pushThen (k := finish 16) rfl).1 u hu
  refine ⟨_, _, hpush, exec_pop_of_popped q ((u.popped_cycles 16).trans hpop), State.setStackPair_stackPair _ q _, ?_⟩
  have hsp : u.cpu.sp = s.cpu.sp - 2 := by rw [(State.pushed_cpu hu).1]
  rw [State.setStackPair_sp]
  show u.cpu.sp + 2 = s.cpu.sp
  rw [hsp, BitVec.sub_add_cancel]

/-- Settles O15: each form's meaning is one write of a pair. -/
theorem pairMoves : Obligations.PairMoves := fun p nn s =>
  ⟨⟨encode_ldPairImm p nn, exec_instr _ s⟩, ⟨rfl, exec_instr _ s⟩, ⟨encode_incPair p, exec_instr _ s⟩, encode_decPair p,
    exec_instr _ s⟩

/-- Settles O16: two writes in turn; a fault of the second leaves the state it was made in, that of the first. -/
theorem storeSp : Obligations.StoreSp := by
  intro nn s
  obtain ⟨hok, hfault⟩ := exec_of_storeThen (f := .ldMImm16Sp nn) (s := s) rfl
  refine ⟨rfl, fun t ht => ?_, hfault⟩
  rw [hok t ht]
  exact ⟨fun u hu => storeThen_ok hu _, fun e he => ⟨storeThen_fault he _, busWrite_left he⟩⟩

/-- Settles O17: each form's meaning is one write of a pair and one of the flags. -/
theorem spDisplacement : Obligations.SpDisplacement := fun _ s =>
  ⟨⟨rfl, _, exec_instr _ s, .of_setFlags ..⟩, rfl, _, exec_instr _ s, .of_setFlags ..⟩

/-- Settles O18: the form's meaning is one push. -/
theorem pushPair : Obligations.PushPair := by
  intro p s
  obtain ⟨hok, hfault⟩ := exec_of_pushThen (f := .push p) (s := s) rfl
  exact ⟨encode_push p, fun u hu => ⟨hok u hu, (State.pushed_cpu hu).1⟩, fun e he => ⟨hfault e he, State.pushed_fault_sp he⟩⟩

/-- Settles O19: the form's meaning is one pop and a write of the pair. -/
theorem popPair : Obligations.PopPair := fun p s =>
  ⟨encode_pop p, fun lo hi hlo hhi => exec_pop_of_popped p (State.popped_eq_some.mpr ⟨lo, hi, hlo, hhi, rfl⟩),
    .of_execForm (execForm_pop p s)⟩

end Sys2Proof.Machine

/-! ### 8-bit arithmetic and logic -/

namespace Sys2Proof.Machine

/-! The forms whose meaning is a `Result8`: a byte to write and the four flags. -/

theorem encode_incReg (r : Reg8) : encode (Form.incReg r).instr = [0x04 + 8 * r.code] := by cases r <;> rfl

theorem encode_decReg (r : Reg8) : encode (Form.decReg r).instr = [0x05 + 8 * r.code] := by cases r <;> rfl

theorem aluEncodes (op : AluOp) : AluEncodes op := by
  cases op <;> exact ⟨fun r => by cases r <;> rfl, rfl, fun _ => rfl⟩

theorem aluFaults (op : AluOp) (s : State) : AluFaults op s := fun _ he => (exec_instr _ s).trans (loadThen_fault he _)

theorem aluCycles_eq (x : AluSrc) : aluCycles x = sourceCycles x := by cases x <;> rfl

section
variable {f : Form} {s : State}

/-- A form whose meaning is one write of the flags sets them and adds nothing else. -/
theorem exec_setsFlags {t : State} {z n h c : Bool} {cycles : Nat} (hf : execForm f s = finish cycles (t.setFlags z n h c)) :
    ∃ u, exec f.instr s = .next u ∧ SetsFlags t u z n h c cycles :=
  ⟨_, (exec_instr f s).trans hf, .of_setFlags ..⟩

/-- An ALU operation whose source can be read writes its result's byte, unless it is CP, and its result's flags
(42_alu8.md R271 to R278). -/
theorem exec_alu_setsFlags {op : AluOp} {x : AluSrc} {v : Byte} {r : Result8} (hv : x.value s = some v)
    (hr : aluResult op s.cpu.a v s.cf = r) :
    ∃ u, exec (Form.alu op x).instr s = .next u ∧
      SetsFlags (if aluWritesA op then s.setReg .a r.value else s) u r.z r.n r.h r.c (sourceCycles x) := by
  have hf : execForm (.alu op x) s =
      finish (aluCycles x) ((if aluWritesA op then s.setReg .a r.value else s).setResultFlags r) := by
    simp only [execForm, alu, readAluSrc_ok hv, hr]
  exact aluCycles_eq x ▸ exec_setsFlags hf

/-- A form that reads the byte at HL, writes it changed and then sets the flags: a fault of either access is its fault
(42_alu8.md R280, R282). -/
theorem exec_updateMHl {g : Byte → Result8} {cycles : Nat}
    (hf : execForm f s = loadThen s.hl s fun v => storeThen s.hl (g v).value s fun t => finish cycles (t.setResultFlags (g v))) :
    (∀ e, busRead .cpu s.hl s = .error e → exec f.instr s = .fault e) ∧
    ∀ v, s.peek s.hl = some v →
      (∀ t, busWrite s.hl (g v).value s = .ok t →
        ∃ u, exec f.instr s = .next u ∧ SetsFlags t u (g v).z (g v).n (g v).h (g v).c cycles) ∧
      ∀ e, busWrite s.hl (g v).value s = .error e → exec f.instr s = .fault e := by
  obtain ⟨hok, hfault⟩ := exec_of_loadThen hf
  refine ⟨hfault, fun v hv => ⟨fun t ht => ⟨_, ?_, .of_setFlags ..⟩, fun e he => ?_⟩⟩
  · rw [hok v hv, storeThen_ok ht]; rfl
  · rw [hok v hv, storeThen_fault he]

end

/-! The results and flags in closed form: bytes by the arithmetic modulo 256, carries and borrows on natural numbers. -/

/-- `Add8` (42_alu8.md R270). -/
theorem add8_eq (a b : Byte) (c : Bool) :
    add8 a b c =
      { value := a + b + BitVec.ofNat 8 (bitNat c)
        z := decide (a + b + BitVec.ofNat 8 (bitNat c) = 0)
        n := false
        h := decide (0x0F < a.toNat % 16 + b.toNat % 16 + bitNat c)
        c := decide (0xFF < a.toNat + b.toNat + bitNat c) } := by
  have hv : BitVec.ofNat 8 (a.toNat + b.toNat + bitNat c) = a + b + BitVec.ofNat 8 (bitNat c) := by
    simp only [BitVec.ofNat_add, BitVec.ofNat_toNat, BitVec.setWidth_eq]
  simp only [add8, hv]

theorem ofInt_sub {w : Nat} (x y : Int) : BitVec.ofInt w (x - y) = BitVec.ofInt w x - BitVec.ofInt w y := Int.cast_sub x y

/-- `Sub8` (42_alu8.md R270). -/
theorem sub8_eq (a b : Byte) (c : Bool) :
    sub8 a b c =
      { value := a - b - BitVec.ofNat 8 (bitNat c)
        z := decide (a - b - BitVec.ofNat 8 (bitNat c) = 0)
        n := true
        h := decide (a.toNat % 16 < b.toNat % 16 + bitNat c)
        c := decide (a.toNat < b.toNat + bitNat c) } := by
  have hv : BitVec.ofInt 8 ((a.toNat : Int) - b.toNat - bitNat c) = a - b - BitVec.ofNat 8 (bitNat c) := by
    simp only [ofInt_sub, BitVec.ofInt_natCast, BitVec.ofNat_toNat, BitVec.setWidth_eq]
  have hh : ((a.toNat % 16 : Nat) : Int) - (b.toNat % 16 : Nat) - bitNat c < 0 ↔ a.toNat % 16 < b.toNat % 16 + bitNat c := by
    omega
  have hc : (a.toNat : Int) - b.toNat - bitNat c < 0 ↔ a.toNat < b.toNat + bitNat c := by omega
  simp only [sub8, hv, hh, hc]

/-- `Add8` without a carry in. -/
theorem add8_false (a b : Byte) :
    add8 a b false =
      { value := a + b
        z := decide (a + b = 0)
        n := false
        h := decide (0x0F < a.toNat % 16 + b.toNat % 16)
        c := decide (0xFF < a.toNat + b.toNat) } := by
  simp [add8_eq, bitNat]

/-- `Sub8` without a carry in. -/
theorem sub8_false (a b : Byte) :
    sub8 a b false =
      { value := a - b
        z := decide (a - b = 0)
        n := true
        h := decide (a.toNat % 16 < b.toNat % 16)
        c := decide (a.toNat < b.toNat) } := by
  simp [sub8_eq, bitNat]

/-- The low nibble of a byte as a number. -/
theorem and_0x0F_toNat (v : Byte) : (v &&& 0x0F).toNat = v.toNat % 16 :=
  (BitVec.toNat_and v 0x0F).trans (Nat.and_two_pow_sub_one_eq_mod v.toNat 4)

/-- INC of a byte (42_alu8.md R279). -/
theorem inc8_eq (v : Byte) (cf : Bool) :
    inc8 v cf = { value := v + 1, z := decide (v + 1 = 0), n := false, h := decide (v.toNat % 16 = 0x0F), c := cf } := by
  have hh : v &&& 0x0F = 0x0F ↔ v.toNat % 16 = 0x0F := by rw [← BitVec.toNat_inj, and_0x0F_toNat]; rfl
  simp only [inc8, hh]

/-- DEC of a byte (42_alu8.md R281). -/
theorem dec8_eq (v : Byte) (cf : Bool) :
    dec8 v cf = { value := v - 1, z := decide (v - 1 = 0), n := true, h := decide (v.toNat % 16 = 0), c := cf } := by
  have hh : v &&& 0x0F = 0x00 ↔ v.toNat % 16 = 0 := by rw [← BitVec.toNat_inj, and_0x0F_toNat]; rfl
  simp only [dec8, hh]

/-- DAA's correction upwards: 0x60 where the high digit, 0x06 where the low digit needs it (42_alu8.md R283). -/
def correctedUp (a : Byte) (high low : Bool) : Byte := a + (if high then 0x60 else 0) + (if low then 0x06 else 0)

/-- DAA's correction downwards (42_alu8.md R283). -/
def correctedDown (a : Byte) (high low : Bool) : Byte := a - (if high then 0x60 else 0) - (if low then 0x06 else 0)

/-- DAA after an addition: 0x60 added does not change the low digit, so its test may be made of A itself (42_alu8.md R283). -/
theorem daaResult_add (a : Byte) (h c : Bool) :
    let up := c || decide (0x99 < a.toNat)
    let v := correctedUp a up (h || decide (9 < a.toNat % 16))
    daaResult a false h c = { value := v, z := decide (v = 0), n := false, h := false, c := up } := by
  intro up v
  have hlow : (if up then a.toNat + 0x60 else a.toNat) % 16 = a.toNat % 16 := by split <;> omega
  have hv : BitVec.ofNat 8 (daaAdd a h c).1 = v := by
    simp only [daaAdd, v, correctedUp]
    rw [hlow]
    split <;> split <;> simp [BitVec.ofNat_add]
  simp only [daaResult, hv]
  rfl

/-- DAA after a subtraction (42_alu8.md R283). -/
theorem daaResult_sub (a : Byte) (h c : Bool) :
    daaResult a true h c =
      { value := correctedDown a c h, z := decide (correctedDown a c h = 0), n := true, h := false, c := c } := by
  have hv : BitVec.ofInt 8 (daaSub a h c) = correctedDown a c h := by
    unfold daaSub correctedDown
    cases c <;> cases h <;> simp [ofInt_sub]
  simp only [daaResult, hv]
  rfl

/-! What DAA's correction does to a sum and to a difference of decimal bytes. -/

theorem bcd_toNat {n : Nat} (h : n < 100) : (bcd n).toNat = 16 * (n / 10) + n % 10 :=
  Nat.mod_eq_of_lt (by omega)

section
variable {m n : Nat}

/-- DAA's test of the low digit after an addition holds where the units carry. -/
theorem bcd_add_low_iff (hm : m < 100) (hn : n < 100) :
    0x0F < (bcd m).toNat % 16 + (bcd n).toNat % 16 ∨ 9 < (bcd m + bcd n).toNat % 16 ↔ 10 ≤ m % 10 + n % 10 := by
  rw [BitVec.toNat_add, bcd_toNat hm, bcd_toNat hn]; omega

/-- DAA's test of the high digit after an addition holds where the decimal sum carries. -/
theorem bcd_add_high_iff (hm : m < 100) (hn : n < 100) :
    0xFF < (bcd m).toNat + (bcd n).toNat ∨ 0x99 < (bcd m + bcd n).toNat ↔ 100 ≤ m + n := by
  have hsum : 0x99 < (bcd m).toNat + (bcd n).toNat ↔ 100 ≤ m + n := by rw [bcd_toNat hm, bcd_toNat hn]; omega
  rw [← hsum, BitVec.toNat_add]; omega

/-- Each digit that carries needs 6 more to pass over the six values of a nibble that are no digit. -/
theorem correctedUp_bcd_add (hm : m < 100) (hn : n < 100) :
    correctedUp (bcd m + bcd n) (decide (100 ≤ m + n)) (decide (10 ≤ m % 10 + n % 10)) = bcd ((m + n) % 100) := by
  have hsum := bcd_toNat (Nat.mod_lt (m + n) (by decide : 0 < 100))
  have hm' := bcd_toNat hm
  have hn' := bcd_toNat hn
  simp only [correctedUp, decide_eq_true_eq]
  split <;> split <;> bv_omega

/-- H after a subtraction says that the units borrow. -/
theorem bcd_sub_low_iff (hm : m < 100) (hn : n < 100) : (bcd m).toNat % 16 < (bcd n).toNat % 16 ↔ m % 10 < n % 10 := by
  rw [bcd_toNat hm, bcd_toNat hn]; omega

/-- C after a subtraction says that the decimal difference borrows: decimal bytes are in the order of their numbers. -/
theorem bcd_toNat_lt_iff (hm : m < 100) (hn : n < 100) : (bcd m).toNat < (bcd n).toNat ↔ m < n := by
  rw [bcd_toNat hm, bcd_toNat hn]; omega

/-- Each digit that borrows has taken 16 and not 10 from the next. -/
theorem correctedDown_bcd_sub (hm : m < 100) (hn : n < 100) :
    correctedDown (bcd m - bcd n) (decide (m < n)) (decide (m % 10 < n % 10)) = bcd ((m + 100 - n) % 100) := by
  have hdiff := bcd_toNat (Nat.mod_lt (m + 100 - n) (by decide : 0 < 100))
  have hm' := bcd_toNat hm
  have hn' := bcd_toNat hn
  simp only [correctedDown, decide_eq_true_eq]
  split <;> split <;> bv_omega

/-- DAA gives the decimal sum of two decimal bytes, and the decimal carry (42_alu8.md R283). -/
theorem daaResult_add8_bcd (hm : m < 100) (hn : n < 100) :
    let r := add8 (bcd m) (bcd n) false
    let v := bcd ((m + n) % 100)
    daaResult r.value r.n r.h r.c = { value := v, z := decide (v = 0), n := false, h := false, c := decide (100 ≤ m + n) } := by
  simp only [add8_false, daaResult_add, ← Bool.decide_or, bcd_add_high_iff hm hn, bcd_add_low_iff hm hn,
    correctedUp_bcd_add hm hn]

/-- DAA gives the decimal difference of two decimal bytes, and the decimal borrow (42_alu8.md R283). -/
theorem daaResult_sub8_bcd (hm : m < 100) (hn : n < 100) :
    let r := sub8 (bcd m) (bcd n) false
    let v := bcd ((m + 100 - n) % 100)
    daaResult r.value r.n r.h r.c = { value := v, z := decide (v = 0), n := true, h := false, c := decide (m < n) } := by
  simp only [sub8_false, daaResult_sub, bcd_toNat_lt_iff hm hn, bcd_sub_low_iff hm hn, correctedDown_bcd_sub hm hn]

end

/-- Settles O21: both are `Add8`, of A and the source. -/
theorem addCarry : Obligations.AddCarry := fun _ s =>
  ⟨⟨aluEncodes .add, aluEncodes .adc, aluFaults .add s, aluFaults .adc s⟩, fun v hv =>
    ⟨exec_alu_setsFlags (op := .add) hv (add8_false s.cpu.a v), exec_alu_setsFlags (op := .adc) hv (add8_eq s.cpu.a v s.cf)⟩⟩

/-- Settles O22: all three are `Sub8`, of A and the source. -/
theorem subCompare : Obligations.SubCompare := fun _ s =>
  ⟨⟨aluEncodes .sub, aluEncodes .sbc, aluEncodes .cp, aluFaults .sub s, aluFaults .sbc s, aluFaults .cp s⟩, fun v hv =>
    ⟨exec_alu_setsFlags (op := .sub) hv (sub8_false s.cpu.a v), exec_alu_setsFlags (op := .sbc) hv (sub8_eq s.cpu.a v s.cf),
      exec_alu_setsFlags (op := .cp) hv (sub8_false s.cpu.a v)⟩⟩

/-- Settles O23: the three operations differ in the byte and in H. -/
theorem logic : Obligations.Logic := fun _ s =>
  ⟨⟨aluEncodes .and, aluEncodes .xor, aluEncodes .or, aluFaults .and s, aluFaults .xor s, aluFaults .or s⟩, fun _ hv =>
    ⟨exec_alu_setsFlags (op := .and) hv rfl, exec_alu_setsFlags (op := .xor) hv rfl, exec_alu_setsFlags (op := .or) hv rfl⟩⟩

theorem execForm_incReg (r : Reg8) (s : State) :
    execForm (.incReg r) s = finish 4 ((s.setReg r (s.reg r + 1)).setFlags (decide (s.reg r + 1 = 0)) false
      (decide ((s.reg r).toNat % 16 = 0x0F)) s.cf) := by
  simp only [execForm, incReg, State.setResultFlags, inc8_eq]

theorem execForm_decReg (r : Reg8) (s : State) :
    execForm (.decReg r) s = finish 4 ((s.setReg r (s.reg r - 1)).setFlags (decide (s.reg r - 1 = 0)) true
      (decide ((s.reg r).toNat % 16 = 0)) s.cf) := by
  simp only [execForm, decReg, State.setResultFlags, dec8_eq]

/-- Settles O24: a register is written with the byte changed, and at HL the byte is read, written changed and then the flags set. -/
theorem incDec : Obligations.IncDec := by
  intro r s
  obtain ⟨hincRead, hinc⟩ := exec_updateMHl (f := .incMHl) (s := s) (g := (inc8 · s.cf)) rfl
  obtain ⟨hdecRead, hdec⟩ := exec_updateMHl (f := .decMHl) (s := s) (g := (dec8 · s.cf)) rfl
  simp only [inc8_eq] at hinc
  simp only [dec8_eq] at hdec
  exact ⟨⟨encode_incReg r, exec_setsFlags (execForm_incReg r s)⟩, ⟨encode_decReg r, exec_setsFlags (execForm_decReg r s)⟩,
    ⟨rfl, rfl⟩, fun e he => ⟨hincRead e he, hdecRead e he⟩, fun v hv =>
      ⟨(hinc v hv).1, (hinc v hv).2, (hdec v hv).1, (hdec v hv).2⟩⟩

/-- DAA writes its result's byte and flags (42_alu8.md R283). -/
theorem exec_daa_setsFlags {s : State} {n : Bool} {r : Result8} (hn : s.nf = n) (hr : daaResult s.cpu.a n s.hf s.cf = r) :
    ∃ u, exec Form.daa.instr s = .next u ∧ SetsFlags (s.setReg .a r.value) u r.z r.n r.h r.c 4 := by
  subst hn hr; exact exec_setsFlags rfl

/-- Settles O25: N chooses the correction, upwards or downwards. -/
theorem decimalAdjust : Obligations.DecimalAdjust := fun s =>
  ⟨rfl, fun hn => exec_daa_setsFlags hn (daaResult_add s.cpu.a s.hf s.cf),
    fun hn => exec_daa_setsFlags hn (daaResult_sub s.cpu.a s.hf s.cf)⟩

/-- Settles O27: each form's meaning is one write of the flags, CPL's after A. -/
theorem complementCarry : Obligations.ComplementCarry := fun _ =>
  ⟨⟨rfl, exec_setsFlags rfl⟩, ⟨rfl, exec_setsFlags rfl⟩, rfl, exec_setsFlags rfl⟩

theorem SetsFlags.a_eq {t u : State} {z n h c : Bool} {cycles : Nat} (hu : SetsFlags t u z n h c cycles) :
    u.cpu.a = t.cpu.a := by
  obtain ⟨-, -, -, -, -, hu⟩ := hu
  rw [hu]

/-- DAA after an ALU operation that writes A adjusts the operation's byte by the operation's flags. -/
theorem exec_alu_daa {op : AluOp} {x : AluSrc} {v : Byte} {r d : Result8} {s : State} (hv : x.value s = some v)
    (hw : aluWritesA op = true) (hr : aluResult op s.cpu.a v s.cf = r) (hd : daaResult r.value r.n r.h r.c = d) :
    ∃ t u, exec (Form.alu op x).instr s = .next t ∧ exec Form.daa.instr t = .next u ∧ u.cpu.a = d.value ∧ u.cf = d.c := by
  obtain ⟨t, ht, hflags⟩ := exec_alu_setsFlags hv hr
  rw [if_pos hw] at hflags
  have hta : t.cpu.a = r.value := hflags.a_eq
  obtain ⟨-, htn, hth, htc, -⟩ := hflags
  have hres : daaResult t.cpu.a r.n t.hf t.cf = d := by rw [hta, hth, htc, hd]
  obtain ⟨u, hu, hdaa⟩ := exec_daa_setsFlags htn hres
  have hua : u.cpu.a = d.value := hdaa.a_eq
  obtain ⟨-, -, -, huc, -⟩ := hdaa
  exact ⟨t, u, ht, hu, hua, huc⟩

/-- Settles O26: DAA turns the binary sum or difference of two decimal bytes, with its flags, into the decimal one. -/
theorem decimalArithmetic : Obligations.DecimalArithmetic := by
  intro m n s hm hn ha hb
  have hsrc : AluSrc.value (.reg .b) s = some (bcd n) := congrArg some hb
  constructor
  · have hsum : aluResult .add s.cpu.a (bcd n) s.cf = add8 (bcd m) (bcd n) false := by rw [ha]; rfl
    exact exec_alu_daa hsrc rfl hsum (daaResult_add8_bcd hm hn)
  · have hdiff : aluResult .sub s.cpu.a (bcd n) s.cf = sub8 (bcd m) (bcd n) false := by rw [ha]; rfl
    exact exec_alu_daa hsrc rfl hdiff (daaResult_sub8_bcd hm hn)

end Sys2Proof.Machine

/-! ### 16-bit arithmetic -/

namespace Sys2Proof.Machine

theorem encode_addHlPair (p : Pair) : encode (Form.addHlPair p).instr = [0x09 + 16 * p.code] := by cases p <;> rfl

/-- HL and the pair are both read before HL is written (43_alu16.md R320). -/
theorem execForm_addHlPair (p : Pair) (s : State) :
    execForm (.addHlPair p) s = finish 8 ((s.setPair .hl (s.pair .hl + s.pair p)).setFlags s.zf false
      (halfCarry16 (s.pair .hl) (s.pair p)) (carry16 (s.pair .hl) (s.pair p))) := rfl

/-- Settles O28: the form's meaning is one write of HL and one of the flags, with the Z of before. -/
theorem addHl : Obligations.AddHl := fun p s => ⟨encode_addHlPair p, exec_setsFlags (execForm_addHlPair p s)⟩

end Sys2Proof.Machine

/-! ### Rotates, shifts and swap -/

namespace Sys2Proof.Machine

/-! The operand r8 of a CB row: encodings, faults and the row that reads it and writes it back. -/

theorem encode_rot (op : RotOp) (t : Operand8) : encode (Form.rot op t).instr = [0xCB, 8 * op.code + t.code] := by
  cases t with
  | reg r => cases op <;> cases r <;> rfl
  | mhl => cases op <;> rfl

theorem operandCycles_eq (t : Operand8) (reg mhl : Nat) : operandCycles t reg mhl = if t = .mhl then mhl else reg := by
  cases t <;> rfl

theorem readOperand_fault {t : Operand8} {s : State} {e : Fault} (ht : t = .mhl) (h : busRead .cpu s.hl s = .error e)
    (k : Byte → Exec) : readOperand t s k = .fault e := by
  subst ht; exact loadThen_fault h k

theorem writeOperand_fault {t : Operand8} {v : Byte} {s : State} {e : Fault} (h : t.written v s = .error e)
    (k : State → Exec) : writeOperand t v s k = .fault e := by
  cases t with
  | reg r => cases h
  | mhl => exact storeThen_fault h k

/-- A form that reads its operand, writes it changed and continues with `k`: a fault of either access is its fault
(30_encoding.md R153). -/
theorem exec_updateOperand {f : Form} {t : Operand8} {s : State} {g : Byte → Byte} {k : Byte → State → Exec}
    (hf : execForm f s = readOperand t s fun v => writeOperand t (g v) s (k v)) :
    (∀ e, t = .mhl → busRead .cpu s.hl s = .error e → exec f.instr s = .fault e) ∧
    ∀ v, t.value s = some v →
      (∀ w, t.written (g v) s = .ok w → exec f.instr s = k v w) ∧
      ∀ e, t.written (g v) s = .error e → exec f.instr s = .fault e := by
  rw [exec_instr, hf]
  refine ⟨fun e ht he => readOperand_fault ht he _, fun v hv => ?_⟩
  rw [readOperand_ok hv]
  exact ⟨fun w hw => writeOperand_ok hw _, fun e he => writeOperand_fault he _⟩

/-! The model joins fields of the byte where the pseudocode shifts it and sets the bit that comes in. -/

section
variable (v : Byte) (b : Bool)

theorem getElem_bit0 {i : Nat} (hi : i < 8) : (if b then (1 : Byte) else 0)[i] = (decide (i = 0) && b) := by
  cases b <;> simp

theorem getElem_bit7 {i : Nat} (hi : i < 8) : (if b then (0x80 : Byte) else 0)[i] = (decide (i = 7) && b) := by
  have h80 : (0x80 : Byte) = BitVec.twoPow 8 7 := rfl
  cases b <;> simp [h80]

/-- A byte's low seven bits with a bit below them: the byte shifted left, that bit shifted in. -/
theorem low7_append_bit : v.extractLsb' 0 7 ++ BitVec.ofBool b = (v <<< 1) ||| (if b then 1 else 0) := by
  ext i hi
  rw [BitVec.getElem_append, BitVec.getElem_or, getElem_bit0]
  cases i with
  | zero => simp
  | succ i => simp [BitVec.getLsbD_eq_getElem (x := v) (i := i) (by omega)]

/-- A byte's high seven bits with a bit above them: the byte shifted right, that bit shifted in. -/
theorem bit_append_high7 : BitVec.ofBool b ++ v.extractLsb' 1 7 = (v >>> 1) ||| (if b then 0x80 else 0) := by
  ext i hi
  rw [BitVec.getElem_append, BitVec.getElem_or, getElem_bit7]
  obtain h | rfl := Nat.lt_succ_iff_lt_or_eq.mp hi
  · simp [h, h.ne]
  · simp

theorem extractLsb'_one (i : Nat) : v.extractLsb' i 1 = BitVec.ofBool (v.getLsbD i) := by
  ext j hj
  simp [Nat.lt_one_iff.mp hj]

/-- SWAP, compared bit by bit (44_rotate_shift.md R350). -/
theorem low4_append_high4 : v.extractLsb' 0 4 ++ v.extractLsb' 4 4 = ((v &&& 0x0F) <<< 4) ||| (v >>> 4) := by
  ext i hi
  rw [BitVec.getElem_append]
  interval_cases i <;> simp

/-- An arithmetic shift right is a logical one that keeps bit 7; compared bit by bit (44_rotate_shift.md R349). -/
theorem sshiftRight_one : v.sshiftRight 1 = (v >>> 1) ||| (v &&& 0x80) := by
  ext i hi
  interval_cases i <;> simp [BitVec.getElem_sshiftRight, BitVec.msb_eq_getLsbD_last]

/-- Bit 7 alone, moved to bit 0. -/
theorem ushiftRight_seven : v >>> 7 = if v.getLsbD 7 then 1 else 0 := by
  ext i hi
  rw [getElem_bit0, BitVec.getElem_ushiftRight]
  cases i with
  | zero => simp
  | succ i => simpa using BitVec.getLsbD_of_ge v _ (by omega)

/-- Bit 0 alone, moved to bit 7. -/
theorem shiftLeft_seven : v <<< 7 = if v.getLsbD 0 then 0x80 else 0 := by
  ext i hi
  rw [getElem_bit7]
  obtain h | rfl := Nat.lt_succ_iff_lt_or_eq.mp hi
  · simp [h, h.ne]
  · simp

end

/-- The model's rotates and shifts are those of the pseudocode (44_rotate_shift.md R344 to R351). -/
theorem rotate_eq_rotSpec (op : RotOp) (v : Byte) (cf : Bool) : rotate op v cf = rotSpec op v cf := by
  cases op with
  | rlc => simp only [rotate, rotSpec, extractLsb'_one, low7_append_bit]
  | rrc => simp only [rotate, rotSpec, extractLsb'_one, bit_append_high7]
  | rl => simp only [rotate, rotSpec, low7_append_bit]
  | rr => simp only [rotate, rotSpec, bit_append_high7]
  | sra => simp only [rotate, rotSpec, sshiftRight_one]
  | swap => simp only [rotate, rotSpec, low4_append_high4]
  | sla | srl => rfl

/-- A form whose meaning is a rotate of A (44_rotate_shift.md R340 to R343). -/
theorem exec_rotateA_setsFlags {f : Form} {op : RotOp} {s : State} {v : Byte} {c : Bool}
    (hf : execForm f s = rotateA op s) (hr : rotSpec op s.cpu.a s.cf = (v, c)) :
    ∃ u, exec f.instr s = .next u ∧ SetsFlags (s.setReg .a v) u false false false c 4 := by
  refine exec_setsFlags (hf.trans ?_)
  simp only [rotateA, rotate_eq_rotSpec, hr]

theorem execForm_rot (op : RotOp) (t : Operand8) (s : State) :
    execForm (.rot op t) s = readOperand t s fun v => writeOperand t (rotSpec op v s.cf).1 s fun w =>
      finish (if t = .mhl then 16 else 8)
        (w.setFlags (decide ((rotSpec op v s.cf).1 = 0)) false false (rotSpec op v s.cf).2) := by
  simp only [execForm, rot, rotate_eq_rotSpec, operandCycles_eq]

/-- Settles O30: one read of the operand, one write of it, then one write of the flags. -/
theorem rotateOperand : Obligations.RotateOperand := by
  intro op t s
  obtain ⟨hread, hupdate⟩ := exec_updateOperand (execForm_rot op t s)
  exact ⟨encode_rot op t, fun v w hv hw => ⟨_, (hupdate v hv).1 w hw, .of_setFlags ..⟩, hread, fun v e hv => (hupdate v hv).2 e⟩

end Sys2Proof.Machine

/-! Outside `Machine`, where `rotateA` is the meaning of these forms. -/

namespace Sys2Proof

open Machine

/-- Settles O29: each form is the rotate of R344 to R347 made of A; RLCA and RRCA bring in the bit that goes out. -/
theorem rotateA : Obligations.RotateA := by
  intro s a
  rw [ushiftRight_seven, shiftLeft_seven]
  exact ⟨⟨rfl, exec_rotateA_setsFlags (op := .rlc) rfl rfl⟩, ⟨rfl, exec_rotateA_setsFlags (op := .rrc) rfl rfl⟩,
    ⟨rfl, exec_rotateA_setsFlags (op := .rl) rfl rfl⟩, rfl, exec_rotateA_setsFlags (op := .rr) rfl rfl⟩

end Sys2Proof

/-! ### Single-bit instructions -/

namespace Sys2Proof.Machine

/-- The quarters `BIT`, `RES` and `SET` of the CB map: the bit in the field y, the operand in the field z (30_encoding.md R158). -/
theorem encode_bit_res_set (b : Bit3) (t : Operand8) :
    encode (Form.bit b t).instr = [0xCB, 0x40 + 8 * b.code + t.code] ∧
    encode (Form.res b t).instr = [0xCB, 0x80 + 8 * b.code + t.code] ∧
    encode (Form.set b t).instr = [0xCB, 0xC0 + 8 * b.code + t.code] := by
  cases t with
  | reg r => cases b <;> cases r <;> exact ⟨rfl, rfl, rfl⟩
  | mhl => cases b <;> exact ⟨rfl, rfl, rfl⟩

theorem bitIndex_eq_code (b : Bit3) : bitIndex b = b.code.toNat := by cases b <;> rfl

section
variable (b : Bit3) (t : Operand8) (s : State)

/-- The flags are the only write of `BIT` (45_bit.md R370). -/
theorem execForm_bit :
    execForm (.bit b t) s = readOperand t s fun v =>
      finish (if t = .mhl then 12 else 8) (s.setFlags (!v.getLsbD b.code.toNat) false true s.cf) := by
  simp only [execForm, bit, bitIndex_eq_code, operandCycles_eq]

/-- The operand is the only write of `RES` (45_bit.md R371). -/
theorem execForm_res :
    execForm (.res b t) s = readOperand t s fun v =>
      writeOperand t (v &&& ~~~(1#8 <<< b.code.toNat)) s (finish (if t = .mhl then 16 else 8)) := by
  simp only [execForm, res, bitIndex_eq_code, operandCycles_eq]

/-- The operand is the only write of `SET` (45_bit.md R372). -/
theorem execForm_set :
    execForm (.set b t) s = readOperand t s fun v =>
      writeOperand t (v ||| 1#8 <<< b.code.toNat) s (finish (if t = .mhl then 16 else 8)) := by
  simp only [execForm, set, bitIndex_eq_code, operandCycles_eq]

end

/-- A form that reads its operand and continues with `k`: a fault of the read is its fault (30_encoding.md R153). -/
theorem exec_of_readOperand {f : Form} {t : Operand8} {s : State} {k : Byte → Exec} (hf : execForm f s = readOperand t s k) :
    (∀ v, t.value s = some v → exec f.instr s = k v) ∧
    ∀ e, t = .mhl → busRead .cpu s.hl s = .error e → exec f.instr s = .fault e := by
  rw [exec_instr, hf]
  exact ⟨fun _ hv => readOperand_ok hv k, fun _ ht he => readOperand_fault ht he k⟩

/-- Settles O31: one read of the operand, then one write of the flags. -/
theorem bitTest : Obligations.BitTest := by
  intro b t s
  obtain ⟨hencode, -, -⟩ := encode_bit_res_set b t
  obtain ⟨hok, hread⟩ := exec_of_readOperand (execForm_bit b t s)
  exact ⟨hencode, fun v hv => ⟨_, hok v hv, .of_setFlags ..⟩, hread⟩

/-- Settles O32: one read of the operand, then one write of it, made whatever the bit was. -/
theorem bitResetSet : Obligations.BitResetSet := by
  intro b t s c
  obtain ⟨-, hencode⟩ := encode_bit_res_set b t
  obtain ⟨hresRead, hres⟩ := exec_updateOperand (execForm_res b t s)
  obtain ⟨hsetRead, hset⟩ := exec_updateOperand (execForm_set b t s)
  exact ⟨hencode, fun v hv => ⟨(hres v hv).1, (hres v hv).2, (hset v hv).1, (hset v hv).2⟩,
    fun e ht he => ⟨hresRead e ht he, hsetRead e ht he⟩⟩

end Sys2Proof.Machine

/-! ### Control transfers -/

namespace Sys2Proof.Machine

/-- The conditional transfers, the condition in the field y (30_encoding.md R156; JR from y = 4 on, 46_control.md R394). -/
theorem encode_jpCond (cc : Cond) (nn : Word) :
    encode (Form.jpCond cc nn).instr = [0xC2 + 8 * cc.code, nn.extractLsb' 0 8, nn.extractLsb' 8 8] := by
  cases cc <;> rfl

theorem encode_jrCond (cc : Cond) (e : Byte) : encode (Form.jrCond cc e).instr = [0x20 + 8 * cc.code, e] := by
  cases cc <;> rfl

theorem encode_callCond (cc : Cond) (nn : Word) :
    encode (Form.callCond cc nn).instr = [0xC4 + 8 * cc.code, nn.extractLsb' 0 8, nn.extractLsb' 8 8] := by
  cases cc <;> rfl

theorem encode_retCond (cc : Cond) : encode (Form.retCond cc).instr = [0xC0 + 8 * cc.code] := by cases cc <;> rfl

theorem encode_rst (k : Bit3) : encode (Form.rst k).instr = [0xC7 + 8 * k.code] := by cases k <;> rfl

/-- A restart's target is 8 times the field y (46_control.md R400). -/
theorem restartTarget_eq_code (k : Bit3) : restartTarget k = BitVec.ofNat 16 (8 * k.code.toNat) := by
  rw [restartTarget, bitIndex_eq_code]

/-! What a form does whose meaning depends on a condition, where it holds and where it does not (46_control.md R401). -/

section
variable (cc : Cond) (nn : Word) (e : Byte) (s : State)

theorem exec_jpCond : exec (Form.jpCond cc nn).instr s =
    .next (if s.cond cc then { s.setPc nn with cycles := 16 } else { s with cycles := 12 }) :=
  (exec_instr _ s).trans (apply_ite Host.Outcome.next ..).symm

theorem exec_jrCond : exec (Form.jrCond cc e).instr s =
    .next (if s.cond cc then { s.setPc (s.cpu.pc + e.signExtend 16) with cycles := 12 } else { s with cycles := 8 }) :=
  (exec_instr _ s).trans (apply_ite Host.Outcome.next ..).symm

variable {cc s}

theorem execForm_callCond_taken (h : s.cond cc = true) : execForm (.callCond cc nn) s = execForm (.call nn) s := if_pos h

theorem exec_callCond_not_taken (h : s.cond cc = false) :
    exec (Form.callCond cc nn).instr s = .next { s with cycles := 12 } :=
  (exec_instr _ s).trans (if_neg (ne_true_of_eq_false h))

theorem execForm_retCond_taken (h : s.cond cc = true) :
    execForm (.retCond cc) s = popThen s fun v t => finish 20 (t.setPc v) := if_pos h

theorem exec_retCond_not_taken (h : s.cond cc = false) :
    exec (Form.retCond cc).instr s = .next { s with cycles := 8 } :=
  (exec_instr _ s).trans (if_neg (ne_true_of_eq_false h))

end

/-! `RET` and `RETI` make the same pop and jump; `RETI` then sets IME (46_control.md R397, R399). -/

theorem execForm_ret (s : State) : execForm .ret s = popThen s fun v t => finish 16 (t.setPc v) := rfl

theorem execForm_reti (s : State) :
    execForm .reti s = popThen s fun v t => finish 16 ((t.setPc v).setIme true) := rfl

/-- A form whose meaning is one push and then a jump (46_control.md R395). -/
theorem PushesWord.of_execForm {f : Form} {v pc : Word} {n : Nat} {s : State}
    (h : execForm f s = pushThen v s fun t => finish n (t.setPc pc)) : PushesWord f v pc n s := exec_of_pushThen h

/-- A form whose meaning begins with a pop continues with the word popped, where both bytes can be read. -/
theorem exec_of_popThen {f : Form} {s : State} {k : Word → State → Exec} (h : execForm f s = popThen s k) {v : Word}
    (hv : s.popped = some v) : exec f.instr s = k v (s.setSp (s.cpu.sp + 2)) := by
  rw [exec_instr, h, popThen_ok hv]

/-- Settles O33: each form's meaning is one write of PC, made where the condition holds. -/
theorem jumps : Obligations.Jumps := fun cc nn e s =>
  ⟨⟨rfl, rfl, rfl, rfl⟩, ⟨rfl, exec_instr _ s⟩, ⟨encode_jpCond cc nn, exec_jpCond cc nn s⟩, ⟨rfl, exec_instr _ s⟩,
    ⟨rfl, exec_instr _ s⟩, encode_jrCond cc e, exec_jrCond cc e s⟩

/-- Settles O34: each form's meaning is one push and a jump; a call not taken only counts its cycles. -/
theorem calls : Obligations.Calls := by
  intro cc nn k s
  rw [← restartTarget_eq_code]
  exact ⟨⟨rfl, .of_execForm rfl⟩,
    ⟨encode_callCond cc nn, fun h => .of_execForm (execForm_callCond_taken nn h), exec_callCond_not_taken nn⟩,
    encode_rst k, .of_execForm rfl⟩

/-- Settles O35: each form's meaning is one pop, and only what follows it writes PC and IME. -/
theorem returns : Obligations.Returns := by
  intro cc s
  refine ⟨⟨rfl, encode_retCond cc, rfl⟩, fun lo hi hlo hhi => ?_, exec_retCond_not_taken, .of_execForm (execForm_ret s),
    .of_execForm (execForm_reti s), fun h => .of_execForm (execForm_retCond_taken h)⟩
  have hpop : s.popped = some (wordOf hi lo) := State.popped_eq_some.mpr ⟨lo, hi, hlo, hhi, rfl⟩
  exact ⟨exec_of_popThen (execForm_ret s) hpop, fun h => exec_of_popThen (execForm_retCond_taken h) hpop,
    exec_of_popThen (execForm_reti s) hpop⟩

end Sys2Proof.Machine

/-! ### System instructions -/

namespace Sys2Proof.Machine

/-- Path 1 of the CPU step, before `halted` and the fetch are looked at (60_exceptions.md R450). -/
theorem cpuStep_of_takenIrq {s : State} {src : IrqSource} (h : takenIrq s = some src) : cpuStep s = dispatchIrq src s := by
  rw [cpuStep, h]

theorem encode_illegal (g : Gap) : encode (Form.illegal g).instr = [gapOpcode g] := by cases g <;> rfl

/-- Settles O36: the three meanings write at most IME, and the CPU step looks for a pending source first. -/
theorem systemOps : Obligations.SystemOps := fun s =>
  ⟨⟨rfl, exec_instr _ s⟩, ⟨rfl, exec_instr _ s⟩, ⟨rfl, exec_instr _ s⟩,
    fun _ hime hpending => cpuStep_of_takenIrq (takenIrq_eq_some.mpr ⟨hime, hpending⟩)⟩

/-- Settles O37: the meaning of `STOP` and of every gap is its fault. -/
theorem stopAndGaps : Obligations.StopAndGaps := fun n g s =>
  ⟨⟨rfl, exec_instr (.stop n) s⟩, rfl, encode_illegal g, exec_instr (.illegal g) s⟩

end Sys2Proof.Machine

/-! ### The timing invariant along a step -/

namespace Sys2Proof.Machine

theorem State.Timed.of_samePicture {s t : State} (hs : s.Timed) (h : SamePicture s t) : t.Timed :=
  ⟨by rw [h.ly]; exact hs.line, by rw [h.dot]; exact hs.dot, by rw [h.mode, h.ly, h.dot]; exact hs.mode⟩

/-- A CPU step leaves the picture and the PPU's position: no bus write changes them. -/
theorem cpuStep_samePicture {s t : State} (h : cpuStep s = .next t) : SamePicture s t :=
  cpuStep_keep (P := SamePicture s) (fun _ _ hs hc => hs.trans (.of_sameOutsideCpu hc))
    (fun _ _ hs => hs.trans ⟨rfl, rfl, rfl, rfl⟩) (fun _ _ _ _ hs hw => hs.trans (.of_busWrite hw)) h (.refl s)

/-- Settles O57: the CPU step leaves line, dot and mode, and every tick after it keeps the invariant. -/
theorem stepKeepsTimed : Obligations.StepKeepsTimed := by
  intro s t hs h
  obtain ⟨u, hu, ht⟩ := step_next h
  exact ticks_timed (hs.of_samePicture (cpuStep_samePicture hu)) ht

end Sys2Proof.Machine

/-! ### The CPU step: dispatch, the halted step and the instruction -/

namespace Sys2Proof.Machine

/-- The vectors are 8 bytes apart from 0x40 (60_exceptions.md R465). -/
theorem IrqSource.vector_eq (src : IrqSource) : src.vector = BitVec.ofNat 16 (0x40 + 8 * src.bit) := by
  cases src <;> rfl

/-- The CPU registers are read nowhere, and IF at 0xFF0F alone (60_exceptions.md R467). -/
theorem State.peek_cpu_iflag {b : Word} (s : State) (c : Cpu) (v : Byte) (hb : b ≠ 0xFF0F) :
    State.peek { s with cpu := c, irq := { s.irq with iflag := v } } b = s.peek b := by
  have hx := s.target_spec b
  rw [State.peek_def, State.peek_def]
  show State.peekAt _ (s.target b) = _
  cases ht : s.target b with
  | iflag =>
    rw [ht] at hx
    exact absurd (BitVec.eq_of_toNat_eq (y := 0xFF0F) hx) hb
  | _ => rfl

theorem dispatchIrq_error {src : IrqSource} {s : State} {e : Fault}
    (h : (clearRequest src ((s.setIme false).setHalted false)).pushed s.cpu.pc = .error e) :
    dispatchIrq src s = .fault e := by
  show pushThen s.cpu.pc _ _ = _
  rw [pushThen_eq, h]

theorem step_of_cpuStep_fault {s : State} {e : Fault} (h : cpuStep s = .fault e) : step s = .fault e := by
  unfold step loopTurn Exec.andThen; rw [h]

/-- Settles O7: the dispatch is one push in the state with IME, `halted` and the request cleared, and a jump to the vector. -/
theorem interruptDispatch : Obligations.InterruptDispatch := by
  refine ⟨⟨rfl, fun c => by cases c <;> decide⟩, fun s src hime hsrc => ?_⟩
  have hstep : cpuStep s = dispatchIrq src s := cpuStep_of_takenIrq (takenIrq_eq_some.mpr ⟨hime, hsrc⟩)
  refine ⟨fun u hu => ?_, fun e he => ?_⟩
  · obtain ⟨hcpu, hparams⟩ := State.pushed_cpu hu
    refine ⟨?_, ?_, fun b hb h1 h2 => ?_⟩
    · rw [hstep, dispatchIrq_ok hu, hparams]
    · rw [← src.vector_eq]
      show { u.cpu with pc := src.vector } = _
      rw [hcpu]
    · exact (State.pushed_peek hu h1 h2).trans (s.peek_cpu_iflag _ _ hb)
  · have hfault : cpuStep s = .fault e := hstep.trans (dispatchIrq_error he)
    exact ⟨hfault, step_of_cpuStep_fault hfault⟩

/-! The cycle counts of the instructions (60_exceptions.md R455): every path of a meaning that answers ends in `Cycles(n)`. -/

/-- Where it answers a next state, the cycle count is one of those of R455. -/
def Exec.CyclesLegal (x : Exec) : Prop := ∀ t : State, x = .next t → legalCycles t.cycles = true

theorem legalCycles_iff {n : Nat} : legalCycles n = true ↔ n ∈ [4, 8, 12, 16, 20, 24] := by
  simp [legalCycles, or_assoc]

namespace Exec.CyclesLegal

variable {a : Word} {v : Byte} {s : State}

theorem finish {n : Nat} (hn : legalCycles n = true) (s : State) : CyclesLegal (finish n s) := by
  intro t ht; rw [finish_next ht]; exact hn

theorem fault (e : Fault) : CyclesLegal (.fault e) := by
  intro t ht; cases ht

theorem ite {c : Prop} [Decidable c] {x y : Exec} (hx : CyclesLegal x) (hy : CyclesLegal y) :
    CyclesLegal (if c then x else y) := by
  split
  · exact hx
  · exact hy

theorem loadThen {k : Byte → Exec} (hk : ∀ v, CyclesLegal (k v)) : CyclesLegal (loadThen a s k) := by
  intro t ht
  obtain ⟨v, -, h⟩ := loadThen_next ht
  exact hk v t h

theorem storeThen {k : State → Exec} (hk : ∀ u, CyclesLegal (k u)) : CyclesLegal (storeThen a v s k) := by
  intro t ht
  obtain ⟨u, -, h⟩ := storeThen_next ht
  exact hk u t h

theorem pushThen {w : Word} {k : State → Exec} (hk : ∀ u, CyclesLegal (k u)) : CyclesLegal (pushThen w s k) := by
  intro t ht
  obtain ⟨u, -, h⟩ := pushThen_next ht
  exact hk u t h

theorem popThen {k : Word → State → Exec} (hk : ∀ w u, CyclesLegal (k w u)) : CyclesLegal (popThen s k) := by
  intro t ht
  obtain ⟨w, -, h⟩ := popThen_next ht
  exact hk w _ t h

theorem readOperand {x : Operand8} {k : Byte → Exec} (hk : ∀ v, CyclesLegal (k v)) : CyclesLegal (readOperand x s k) := by
  intro t ht
  obtain ⟨v, -, h⟩ := readOperand_next ht
  exact hk v t h

theorem writeOperand {x : Operand8} {k : State → Exec} (hk : ∀ u, CyclesLegal (k u)) :
    CyclesLegal (writeOperand x v s k) := by
  intro t ht
  obtain ⟨u, -, h⟩ := writeOperand_next ht
  exact hk u t h

theorem readAluSrc {x : AluSrc} {k : Byte → Exec} (hk : ∀ v, CyclesLegal (k v)) : CyclesLegal (readAluSrc x s k) := by
  intro t ht
  obtain ⟨v, -, h⟩ := readAluSrc_next ht
  exact hk v t h

end Exec.CyclesLegal

open Exec (CyclesLegal)

theorem operandCycles_legal (x : Operand8) {m n : Nat} (hm : legalCycles m = true) (hn : legalCycles n = true) :
    legalCycles (operandCycles x m n) = true := by
  cases x with
  | reg r => exact hm
  | mhl => exact hn

theorem aluCycles_legal (x : AluSrc) : legalCycles (aluCycles x) = true := by cases x <;> rfl

section
variable (op : RotOp) (b : Bit3) (x : Operand8) (s : State)

theorem rot_cyclesLegal : CyclesLegal (rot op x s) :=
  .readOperand fun _ => .writeOperand fun _ => .finish (operandCycles_legal x rfl rfl) _

theorem bit_cyclesLegal : CyclesLegal (bit b x s) :=
  .readOperand fun _ => .finish (operandCycles_legal x rfl rfl) _

theorem res_cyclesLegal : CyclesLegal (res b x s) :=
  .readOperand fun _ => .writeOperand fun _ => .finish (operandCycles_legal x rfl rfl) _

theorem set_cyclesLegal : CyclesLegal (set b x s) :=
  .readOperand fun _ => .writeOperand fun _ => .finish (operandCycles_legal x rfl rfl) _

end

theorem prefixCb_cyclesLegal (c : Byte) (s : State) : CyclesLegal (prefixCb c s) := by
  unfold prefixCb
  dsimp only
  split
  · exact rot_cyclesLegal _ _ _
  · exact bit_cyclesLegal _ _ _
  · exact res_cyclesLegal _ _ _
  · exact set_cyclesLegal _ _ _

theorem execForm_cyclesLegal (f : Form) (s : State) : CyclesLegal (execForm f s) := by
  cases f <;> simp only [execForm]
  case stop | illegal => exact .fault _
  case ldRegMHl | ldAMPair | ldAMImm16 | ldhAMN | ldAMC | ldAMHlInc | ldAMHlDec =>
    exact .loadThen fun _ => .finish rfl _
  case ldMHlReg | ldMHlImm | ldMPairA | ldMImm16A | ldhMNA | ldMCA | ldMHlIncA | ldMHlDecA =>
    exact .storeThen fun _ => .finish rfl _
  case ldMImm16Sp => exact .storeThen fun _ => .storeThen fun _ => .finish rfl _
  case incMHl | decMHl => exact .loadThen fun _ => .storeThen fun _ => .finish rfl _
  case push | call | rst => exact .pushThen fun _ => .finish rfl _
  case pop | ret => exact .popThen fun _ _ => .finish rfl _
  case reti =>
    unfold reti returnFromIrq
    exact .popThen fun _ _ => .finish rfl _
  case jpCond | jrCond => exact .ite (.finish rfl _) (.finish rfl _)
  case callCond => exact .ite (.pushThen fun _ => .finish rfl _) (.finish rfl _)
  case retCond => exact .ite (.popThen fun _ _ => .finish rfl _) (.finish rfl _)
  case alu => exact .readAluSrc fun _ => .finish (aluCycles_legal _) _
  case rot => exact rot_cyclesLegal _ _ _
  case bit => exact bit_cyclesLegal _ _ _
  case res => exact res_cyclesLegal _ _ _
  case set => exact set_cyclesLegal _ _ _
  case prefixCb => exact prefixCb_cyclesLegal _ _
  all_goals exact .finish rfl _

theorem dispatchIrq_cycles {src : IrqSource} {s t : State} (h : dispatchIrq src s = .next t) :
    t.cycles = s.params.irqCycles.count := by
  obtain ⟨u, hu, rfl⟩ := dispatchIrq_next h
  exact congrArg (·.irqCycles.count) (State.pushed_cpu hu).2

theorem idleStep_cycles {s t : State} (h : idleStep s = .next t) : t.cycles = 4 := by
  obtain ⟨b, rfl⟩ := idleStep_next h; rfl

theorem irqCycles_legal (c : IrqCycles) : legalCycles c.count = true := by cases c <;> rfl

/-- The cycle count of each path of the CPU step (60_exceptions.md R455). -/
theorem cpuStep_cyclesLegal (s : State) : CyclesLegal (cpuStep s) := by
  intro t h
  obtain ⟨src, -, h⟩ | ⟨-, -, h⟩ | ⟨-, -, i, -, h, -⟩ := cpuStep_next h
  · rw [dispatchIrq_cycles h]; exact irqCycles_legal _
  · rw [idleStep_cycles h]; rfl
  · exact execForm_cyclesLegal i.form _ t ((exec_eq i _).symm.trans h)

theorem cpuStep_of_halted {s : State} (hirq : s.cpu.ime = true → pendingSource s.irq = none) (hh : s.cpu.halted = true) :
    cpuStep s = idleStep s := by
  rw [cpuStep, takenIrq_eq_none hirq]; exact if_pos hh

/-- Settles O47: dispatch and a halted step return their own counts, and every path a legal one. -/
theorem cycleCounts : Obligations.CycleCounts := by
  intro s t h
  refine ⟨fun src hime hsrc => ?_, fun hirq hh => ?_, legalCycles_iff.mp (cpuStep_cyclesLegal s t h)⟩
  · rw [cpuStep_of_takenIrq (takenIrq_eq_some.mpr ⟨hime, hsrc⟩)] at h
    exact dispatchIrq_cycles h
  · rw [cpuStep_of_halted hirq hh] at h
    exact idleStep_cycles h

/-- Settles O9: a halted step with nothing to dispatch is `idleStep`, which tests the wake condition. -/
theorem haltedStep : Obligations.HaltedStep := by
  refine ⟨rfl, fun s => ⟨rfl, exec_instr _ s, fun hh hirq => ?_⟩⟩
  rw [cpuStep_of_halted hirq hh]
  unfold idleStep
  refine ⟨fun hw => if_neg ?_, fun _ hm => if_neg ?_, fun hw hm => if_pos ?_⟩
  · rw [hw]; exact Bool.false_ne_true
  · rw [decide_eq_false (not_not.mpr hm), Bool.and_false]; exact Bool.false_ne_true
  · rw [hw, decide_eq_true hm]; rfl

/-- Settles O8: the chain of tests in `pendingSource`, for every byte IE & IF. -/
theorem pendingPriority : Obligations.PendingPriority := by
  refine ⟨⟨rfl, rfl, rfl, rfl, rfl⟩, fun q src => ?_, fun q => ?_⟩
  · unfold pendingSource
    generalize q.ie &&& q.iflag = x
    revert x
    cases src <;> decide
  · unfold pendingSource
    generalize q.ie &&& q.iflag = x
    revert x
    decide

/-! What decodes from the bytes at PC is what the CPU fetches there. -/

/-- An instruction that takes all the bytes it is decoded from is that of the opcode and its operand bytes, as a fetch reads
them. -/
theorem decode_all {bs : List Byte} {i : Instr} (h : decode bs = .ok (i, [])) :
    ∃ op operands, bs = op :: operands ∧ operands.length = opcodeLength op - 1 ∧
      i = decodeInstr op (operands.getD 0 0) (operands.getD 1 0) := by
  cases bs with
  | nil => cases h
  | cons op operands =>
    unfold decode at h
    dsimp only at h
    split at h <;> cases h <;> exact ⟨op, _, rfl, by simp [*], rfl⟩

theorem State.BytesAtPc.fetch {s : State} {bs : List Byte} {i : Instr} (hb : s.BytesAtPc bs) (h : decode bs = .ok (i, [])) :
    fetch s = .ok i := by
  obtain ⟨op, operands, rfl, hlen, rfl⟩ := decode_all h
  have hop : busRead .cpu s.cpu.pc s = .ok op :=
    State.peek_eq_some.mp ((congrArg s.peek (BitVec.add_zero _).symm).trans (hb 0 (Nat.succ_pos _)))
  have hoperands : fetchBytes (opcodeLength op - 1) (s.cpu.pc + 1) s = .ok operands := by
    refine fetchBytes_ok hlen fun k hk => ?_
    have haddr : s.cpu.pc + 1 + BitVec.ofNat 16 k = s.cpu.pc + BitVec.ofNat 16 (k + 1) := by
      rw [Nat.add_comm k, BitVec.ofNat_add, BitVec.add_assoc]; rfl
    exact (congrArg s.peek haddr).trans (hb (k + 1) (Nat.succ_lt_succ hk))
  rw [Machine.fetch, hop]
  simp only [hoperands]

theorem length_of_decode {bs : List Byte} {i : Instr} (h : decode bs = .ok (i, [])) : i.length = bs.length := by
  obtain ⟨henc, -⟩ := encodeDecode bs i [] h
  rw [Instr.length, ← henc, List.append_nil]

/-- The CPU step on the instruction path (60_exceptions.md R452). -/
theorem cpuStep_of_fetch {s : State} {i : Instr} (hirq : s.cpu.ime = true → pendingSource s.irq = none)
    (hrun : s.cpu.halted = false) (h : fetch s = .ok i) : cpuStep s = runInstr i s := by
  simp [cpuStep, takenIrq_eq_none hirq, hrun, h]

theorem runInstr_of_exec {s t : State} {i : Instr} (h : exec i (s.setPc (s.cpu.pc + BitVec.ofNat 16 i.length)) = .next t) :
    runInstr i s = checkFlags t := by
  rw [runInstr, h]; rfl

/-- Settles O5: the CPU step is `runInstr` of the instruction decoded, the flag check is its end, and the ticks follow. -/
theorem stepRunsDecoded : Obligations.StepRunsDecoded := by
  intro s bs i hirq hrun hdec hbytes
  have hstep : cpuStep s = runInstr i s := cpuStep_of_fetch hirq hrun (hbytes.fetch hdec)
  rw [← length_of_decode hdec]
  have hnext : ∀ t, exec i (s.setPc (s.cpu.pc + BitVec.ofNat 16 i.length)) = .next t → t.cpu.f &&& 0x0F = 0 →
      step s = runTicks t := fun t ht hf =>
    step_eq_of_cpuStep (hstep.trans ((runInstr_of_exec ht).trans (checkFlags_ok hf)))
  refine ⟨fun t u ht hf hu => ?_, fun t e ht hf he => ?_, fun t ht hf => ?_, fun e he => ?_⟩
  · rw [hnext t ht hf, runTicks, hu]
  · rw [hnext t ht hf, runTicks, he]
  · exact step_of_cpuStep_fault (hstep.trans ((runInstr_of_exec ht).trans (if_neg hf)))
  · exact step_of_cpuStep_fault (hstep.trans (by rw [runInstr, he]; rfl))

end Sys2Proof.Machine

/-! ### The timer's rate -/

namespace Sys2Proof.Machine

/-- The period is a power of two, at most 2^10, and the rate mask one less (60_exceptions.md R486). -/
theorem timerPeriod_eq_two_pow (tac : Byte) :
    ∃ k ≤ 10, timerPeriod tac = 2 ^ k ∧ (timerMask tac).toNat = 2 ^ k - 1 := by
  have hm : tac.toNat % 4 < 4 := Nat.mod_lt _ (by decide)
  unfold timerPeriod timerMask
  generalize tac.toNat % 4 = m at hm ⊢
  match m, hm with
  | 0, _ => exact ⟨10, by decide⟩
  | 1, _ => exact ⟨4, by decide⟩
  | 2, _ => exact ⟨6, by decide⟩
  | 3, _ => exact ⟨8, by decide⟩

theorem timerPeriod_pos (tac : Byte) : 0 < timerPeriod tac := by
  unfold timerPeriod; split <;> decide

theorem timerPeriod_dvd (tac : Byte) : timerPeriod tac ∣ 2 ^ 16 := by
  obtain ⟨k, hk, hp, -⟩ := timerPeriod_eq_two_pow tac
  rw [hp]; exact pow_dvd_pow 2 (by omega)

/-- The rate test picks out the multiples of the period. -/
theorem and_timerMask_eq_zero_iff (tac : Byte) (cnt : Word) :
    cnt &&& timerMask tac = 0 ↔ cnt.toNat % timerPeriod tac = 0 := by
  obtain ⟨k, -, hp, hm⟩ := timerPeriod_eq_two_pow tac
  rw [← BitVec.toNat_inj, BitVec.toNat_and, hm, hp, Nat.and_two_pow_sub_one_eq_mod]; rfl

theorem timerCounts_iff {tac : Byte} {cnt : Word} :
    timerCounts tac cnt = true ↔ tac.getLsbD 2 = true ∧ cnt.toNat % timerPeriod tac = 0 := by
  rw [timerCounts, Bool.and_eq_true, decide_eq_true_eq, and_timerMask_eq_zero_iff]

section
variable {s : State}

theorem timerTick_of_not_counts (h : ¬(s.timer.tac.getLsbD 2 = true ∧ (s.timer.cnt + 1).toNat % timerPeriod s.timer.tac = 0)) :
    timerTick s = { s with timer := { s.timer with cnt := s.timer.cnt + 1 } } :=
  if_neg (mt timerCounts_iff.mp h)

theorem timerTick_of_counts (hen : s.timer.tac.getLsbD 2 = true)
    (h : (s.timer.cnt + 1).toNat % timerPeriod s.timer.tac = 0) (ht : s.timer.tima ≠ 0xFF) :
    timerTick s = { s with timer := { s.timer with cnt := s.timer.cnt + 1, tima := s.timer.tima + 1 } } :=
  (if_pos (timerCounts_iff.mpr ⟨hen, h⟩)).trans (if_neg ht)

theorem timerTick_of_overflow (hen : s.timer.tac.getLsbD 2 = true)
    (h : (s.timer.cnt + 1).toNat % timerPeriod s.timer.tac = 0) (ht : s.timer.tima = 0xFF) :
    timerTick s = requestIrq .timer { s with timer := { s.timer with cnt := s.timer.cnt + 1, tima := s.timer.tma } } :=
  (if_pos (timerCounts_iff.mpr ⟨hen, h⟩)).trans (if_pos ht)

end

/-! Several timer ticks. -/

section
variable {s : State}

@[simp] theorem timerTicks_tac (k : Nat) (s : State) : (timerTicks k s).timer.tac = s.timer.tac := by
  induction k generalizing s with
  | zero => rfl
  | succ k ih => exact (ih _).trans (timerTick_tac s)

@[simp] theorem timerTicks_cnt (k : Nat) (s : State) : (timerTicks k s).timer.cnt = s.timer.cnt + BitVec.ofNat 16 k := by
  induction k generalizing s with
  | zero => exact (BitVec.add_zero _).symm
  | succ k ih =>
    show (timerTicks k (timerTick s)).timer.cnt = _
    rw [ih, timerTick_cnt, Nat.add_comm k, BitVec.ofNat_add, BitVec.add_assoc]; rfl

theorem timerTicks_succ (k : Nat) (s : State) : timerTicks (k + 1) s = timerTick (timerTicks k s) := by
  induction k generalizing s with
  | zero => rfl
  | succ k ih => exact ih (timerTick s)

/-- `k` ticks after a multiple of the period, the counter is at `k` modulo the period. -/
theorem timerTicks_cnt_mod (k : Nat) (h : s.timer.cnt.toNat % timerPeriod s.timer.tac = 0) :
    (timerTicks k s).timer.cnt.toNat % timerPeriod s.timer.tac = k % timerPeriod s.timer.tac := by
  rw [timerTicks_cnt, BitVec.toNat_add, BitVec.toNat_ofNat, Nat.add_mod_mod,
    Nat.mod_mod_of_dvd _ (timerPeriod_dvd _), Nat.add_mod, h, Nat.zero_add, Nat.mod_mod]

theorem timerTicks_tima_of_lt (h : s.timer.cnt.toNat % timerPeriod s.timer.tac = 0) {k : Nat}
    (hk : k < timerPeriod s.timer.tac) : (timerTicks k s).timer.tima = s.timer.tima := by
  induction k with
  | zero => rfl
  | succ k ih =>
    rw [timerTicks_succ, timerTick_of_not_counts]
    · exact ih (Nat.lt_of_succ_lt hk)
    · rintro ⟨-, hmod⟩
      rw [← timerTick_cnt, ← timerTicks_succ, timerTicks_tac, timerTicks_cnt_mod _ h, Nat.mod_eq_of_lt hk] at hmod
      exact Nat.succ_ne_zero k hmod

theorem timerTicks_tima_period (hen : s.timer.tac.getLsbD 2 = true)
    (h : s.timer.cnt.toNat % timerPeriod s.timer.tac = 0) (ht : s.timer.tima ≠ 0xFF) :
    (timerTicks (timerPeriod s.timer.tac) s).timer.tima = s.timer.tima + 1 := by
  obtain ⟨k, hk⟩ := Nat.exists_eq_add_one.mpr (timerPeriod_pos s.timer.tac)
  have htima : (timerTicks k s).timer.tima = s.timer.tima := timerTicks_tima_of_lt h (hk ▸ Nat.lt_succ_self k)
  rw [hk, timerTicks_succ, timerTick_of_counts]
  · exact congrArg (· + 1) htima
  · rw [timerTicks_tac]; exact hen
  · rw [← timerTick_cnt, ← timerTicks_succ, timerTicks_tac, timerTicks_cnt_mod _ h, ← hk, Nat.mod_self]
  · rw [htima]; exact ht

end

theorem hiByte_add_256 (v : Word) : hiByte (v + 256) = hiByte v + 1 := by
  apply BitVec.eq_of_toNat_eq
  simp only [hiByte_toNat, BitVec.toNat_add]
  bv_omega

end Sys2Proof.Machine

namespace Sys2Proof

open Machine

/-- Settles O48, outside `Machine`, where `timerTick` is the tick itself: the tick splits on the rate test and on TIMA. -/
theorem timerTick : Obligations.TimerTick := fun _ =>
  ⟨timerTick_of_not_counts, fun hen hmod => ⟨timerTick_of_counts hen hmod, timerTick_of_overflow hen hmod⟩⟩

/-- Settles O49: the counter passes no multiple of the period before the last of a period's ticks. -/
theorem timerRate : Obligations.TimerRate := by
  intro s
  refine ⟨fun hen h ht => ⟨fun k => timerTicks_tima_of_lt h, timerTicks_tima_period hen h ht⟩, ?_⟩
  rw [timerTicks_cnt]
  exact hiByte_add_256 _

end Sys2Proof

/-! ### A PPU tick -/

namespace Sys2Proof.Machine

/-- A DMA step changes of the state OAM and the DMA sub-state alone (60_exceptions.md R561). -/
theorem dmaStep_eq {s u : State} (h : dmaStep s = .ok u) :
    u = { s with ppu := { s.ppu with oam := u.ppu.oam, dmaState := u.ppu.dmaState } } := by
  obtain ⟨-, rfl⟩ | ⟨x, v, -, -, rfl⟩ := dmaStep_ok h <;> rfl

/-- A tick with the display on is its DMA step and the rest of the tick (60_exceptions.md R541). -/
theorem ppuTick_on {s t : State} (hon : s.ppu.lcdc.getLsbD 7 = true) (h : ppuTick s = .ok t) :
    ∃ u, dmaStep s = .ok u ∧ t = scanStep u := by
  obtain ⟨hoff, -⟩ | ⟨-, hu⟩ := ppuTick_ok h
  · exact absurd hon (by rw [hoff]; exact Bool.false_ne_true)
  · exact hu

/-- No branch of the dot step before the last is taken at dot 456, so that alone decides (60_exceptions.md R541). -/
theorem endsLine_eq (p : Ppu) (dot : Nat) : endsLine p dot = decide (dot = 456) := by
  unfold endsLine
  by_cases h : dot = 456
  · subst h; simp
  · simp [h]

theorem line_after_153 (y : Byte) : (if y + 1 = 154 then (0 : Byte) else y + 1) = if y = 153 then 0 else y + 1 := by
  revert y; decide

section
variable (p : Ppu)

/-- The dot counts, from 455 to 0 (60_exceptions.md R543). -/
theorem advanceDot_dot : (advanceDot p).dot = if p.dot + 1 = 456 then 0 else p.dot + 1 := by
  unfold advanceDot
  dsimp only
  split
  · rw [if_neg (by omega)]
  · split
    · rw [if_neg (by omega)]
    · split
      · exact (lineEnd_pos p).1
      · rfl

/-- The line counts where the dot returns to 0, from 153 to 0. -/
theorem advanceDot_ly : (advanceDot p).ly = if p.dot + 1 = 456 then (if p.ly = 153 then 0 else p.ly + 1) else p.ly := by
  unfold advanceDot
  dsimp only
  split
  · rw [if_neg (by omega)]
  · split
    · rw [if_neg (by omega)]
    · split
      · exact (lineEnd_pos p).2.trans (line_after_153 p.ly)
      · rfl

/-- The line object list changes where mode 2 ends, to the result of the OAM scan (60_exceptions.md R555). -/
theorem advanceDot_lineObjects : (advanceDot p).lineObjects =
    if p.mode = .oamScan ∧ p.dot + 1 = 80 then oamScan p else p.lineObjects := by
  unfold advanceDot lineEnd
  dsimp only
  split_ifs <;> rfl

theorem advanceDot_mode_of_scanned (h : p.mode = .oamScan ∧ p.dot + 1 = 80) : (advanceDot p).mode = .transfer := by
  unfold advanceDot
  rw [if_pos h]

end

section
variable (s : State)

theorem scanStep_dot : (scanStep s).ppu.dot = if s.ppu.dot + 1 = 456 then 0 else s.ppu.dot + 1 := by
  obtain ⟨-, -, hdot, -⟩ := drawStep_pos s.ppu
  rw [scanStep_ppu, ← hdot]; exact advanceDot_dot _

theorem scanStep_ly : (scanStep s).ppu.ly =
    if s.ppu.dot + 1 = 456 then (if s.ppu.ly = 153 then 0 else s.ppu.ly + 1) else s.ppu.ly := by
  obtain ⟨hly, -, hdot, -⟩ := drawStep_pos s.ppu
  rw [scanStep_ppu, ← hdot, ← hly]; exact advanceDot_ly _

theorem scanStep_coincidence : (scanStep s).ppu.coincidence = decide ((scanStep s).ppu.ly = (scanStep s).ppu.lyc) := by
  rw [scanStep_ppu]

theorem scanStep_oam_dmaState : (scanStep s).ppu.oam = s.ppu.oam ∧ (scanStep s).ppu.dmaState = s.ppu.dmaState := by
  rw [scanStep_eq]; exact ⟨rfl, rfl⟩

theorem scanStep_fb : (scanStep s).ppu.fb = (drawStep s.ppu).fb := by
  obtain ⟨-, -, hfb, -⟩ := advanceDot_frame (drawStep s.ppu)
  rw [scanStep_ppu]; exact hfb

theorem entersVblank_drawStep : entersVblank (drawStep s.ppu) =
    (decide (s.ppu.dot + 1 = 456) && decide (s.ppu.ly + 1 = 144)) := by
  obtain ⟨hly, -, hdot, -⟩ := drawStep_pos s.ppu
  rw [entersVblank, endsLine_eq, hly, hdot]

end

/-! The position, tick by tick. -/

section
variable {s t : State}

/-- A tick with the display on counts the dot and the line (60_exceptions.md R541, R543). -/
theorem ppuTick_position (hon : s.ppu.lcdc.getLsbD 7 = true) (h : ppuTick s = .ok t) :
    t.ppu.dot = (if s.ppu.dot + 1 = 456 then 0 else s.ppu.dot + 1) ∧
      t.ppu.ly = if s.ppu.dot + 1 = 456 then (if s.ppu.ly = 153 then 0 else s.ppu.ly + 1) else s.ppu.ly := by
  obtain ⟨u, hu, rfl⟩ := ppuTick_on hon h
  rw [scanStep_dot, scanStep_ly, dmaStep_eq hu]
  exact ⟨rfl, rfl⟩

/-- Everything a tick can change: IF, and of the PPU OAM, the position, the line objects, the mirrors and the picture; the
registers and video RAM it leaves (60_exceptions.md R541). -/
theorem ppuTick_eq (h : ppuTick s = .ok t) : t = { s with
    irq := { s.irq with iflag := t.irq.iflag }
    ppu := { s.ppu with
      oam := t.ppu.oam, ly := t.ppu.ly, dot := t.ppu.dot, mode := t.ppu.mode, coincidence := t.ppu.coincidence
      lineObjects := t.ppu.lineObjects, dmaState := t.ppu.dmaState, statLine := t.ppu.statLine, fb := t.ppu.fb } } := by
  obtain ⟨-, rfl⟩ | ⟨-, u, hu, rfl⟩ := ppuTick_ok h
  · rfl
  · rw [scanStep_eq, dmaStep_eq hu]

theorem ppuTick_lcdc (h : ppuTick s = .ok t) : t.ppu.lcdc = s.ppu.lcdc := by
  rw [ppuTick_eq h]

end
end Sys2Proof.Machine

/-! ### Lines of dots -/

namespace Sys2Proof.Machine

theorem ppuTicks_one (s : State) : ppuTicks 1 s = ppuTick s := by
  unfold ppuTicks
  cases ppuTick s <;> rfl

theorem ppuTicks_succ {k : Nat} {s t : State} (h : ppuTicks k s = .ok t) : ppuTicks (k + 1) s = ppuTick t :=
  (ppuTicks_add 1 h).trans (ppuTicks_one t)

/-- The display is on and at dot `k` of line `y`, in that dot's mode, and what a transfer has still to copy can be read. -/
structure AtDot (y : Byte) (k : Nat) (s : State) : Prop where
  timed : s.Timed
  on : s.ppu.lcdc.getLsbD 7 = true
  reads : s.DmaReads
  dot : s.ppu.dot = k
  ly : s.ppu.ly = y

theorem AtDot.mode {y : Byte} {k : Nat} {s : State} (h : AtDot y k s) : s.ppu.mode = modeAt y k := by
  rw [h.timed.mode, h.ly, h.dot]

/-- One tick goes to the next dot, from the last dot of a line to the first of the next (60_exceptions.md R543). -/
theorem AtDot.tick {y : Byte} {k : Nat} {s : State} (h : AtDot y k s) : ∃ t, ppuTick s = .ok t ∧
    AtDot (if k + 1 = 456 then (if y = 153 then 0 else y + 1) else y) (if k + 1 = 456 then 0 else k + 1) t := by
  obtain ⟨t, ht, hr⟩ := ppuTick_reads h.reads
  obtain ⟨hdot, hly⟩ := ppuTick_position h.on ht
  rw [h.dot] at hdot hly
  rw [h.ly] at hly
  exact ⟨t, ht, ppuTick_timed h.timed ht, by rw [ppuTick_lcdc ht]; exact h.on, hr, hdot, hly⟩

/-- The dots of a line, one tick after the other. -/
theorem AtDot.line {y : Byte} {s : State} (h : AtDot y 0 s) {k : Nat} (hk : k < 456) :
    ∃ t, ppuTicks k s = .ok t ∧ AtDot y k t := by
  induction k with
  | zero => exact ⟨s, rfl, h⟩
  | succ k ih =>
    obtain ⟨t, ht, hat⟩ := ih (Nat.lt_of_succ_lt hk)
    obtain ⟨u, hu, hau⟩ := hat.tick
    rw [if_neg hk.ne, if_neg hk.ne] at hau
    exact ⟨u, (ppuTicks_succ ht).trans hu, hau⟩

/-- Settles O51: every tick of the line goes to the next dot, and the last to dot 0 of the next line. -/
theorem lineOfDots : Obligations.LineOfDots := by
  intro s hs hon hr h0
  have h : AtDot s.ppu.ly 0 s := ⟨hs, hon, hr, h0, rfl⟩
  refine ⟨fun k hk => ?_, ?_⟩
  · obtain ⟨t, ht, hat⟩ := h.line hk
    exact ⟨t, ht, hat.dot, hat.ly, hat.mode⟩
  · obtain ⟨t, ht, hat⟩ := h.line (k := 455) (by decide)
    obtain ⟨u, hu, hau⟩ := hat.tick
    exact ⟨u, (ppuTicks_succ ht).trans hu, hau.dot, hau.ly, hau.ly ▸ hau.mode⟩

end Sys2Proof.Machine

/-! ### The picture -/

namespace Sys2Proof.Machine

theorem drawStep_fb (p : Ppu) : (drawStep p).fb =
    if p.mode = .transfer ∧ p.dot < 240 ∧ p.ly.toNat < 144 then
      Memory.write p.fb (160 * p.ly.toNat + (p.dot - 80)) (pixelColour p (p.dot - 80) p.ly)
    else p.fb := by
  unfold drawStep; split <;> rfl

/-- The shades in BGP are its bit pairs (60_exceptions.md R529). -/
theorem paletteColour_toNat (bgp : Byte) (idx : Nat) : (paletteColour bgp idx).toNat = (bgp.toNat >>> (2 * idx)) % 4 := by
  simp [paletteColour]

/-- The base of a tile, computed on unbounded integers (60_exceptions.md R551). -/
theorem tileBase_eq (lcdc tile : Byte) :
    tileBase lcdc tile = (if lcdc.getLsbD 4 then (tile.toNat * 16 : Int) else 0x1000 + tile.toInt * 16).toNat := by
  unfold tileBase; split <;> rfl

theorem two_mul_bitOf (v : Byte) (k : Nat) : 2 * pixelColour.bitOf v k = if v.getLsbD k then 2 else 0 := by
  unfold pixelColour.bitOf; split <;> rfl

/-- The colour of a pixel, with its coordinates as numbers modulo 256 (60_exceptions.md R550). -/
theorem pixelColour_toNat (p : Ppu) (x : Nat) (y : Byte) :
    let bgY := (y.toNat + p.scy.toNat) % 256
    let bgX := (x + p.scx.toNat) % 256
    let map := if p.lcdc.getLsbD 3 then 0x1C00 else 0x1800
    let tile := Memory.read p.vram (map + bgY / 8 * 32 + bgX / 8)
    let base : Int := if p.lcdc.getLsbD 4 then tile.toNat * 16 else 0x1000 + tile.toInt * 16
    let lo := Memory.read p.vram (base.toNat + 2 * (bgY % 8))
    let hi := Memory.read p.vram (base.toNat + 2 * (bgY % 8) + 1)
    let idx := (if hi.getLsbD (7 - bgX % 8) then 2 else 0) + (if lo.getLsbD (7 - bgX % 8) then 1 else 0)
    (pixelColour p x y).toNat = (p.bgp.toNat >>> (2 * idx)) % 4 := by
  have hy : (y + p.scy).toNat = (y.toNat + p.scy.toNat) % 256 := BitVec.toNat_add ..
  have hx : (BitVec.ofNat 8 x + p.scx).toNat = (x + p.scx.toNat) % 256 := by
    rw [BitVec.toNat_add, BitVec.toNat_ofNat, Nat.mod_add_mod]
  dsimp only
  rw [pixelColour, paletteColour_toNat, hy, hx, tileBase_eq, two_mul_bitOf]
  rfl

/-- The picture after a tick is the one its pixel step draws from the registers and video RAM before it (60_exceptions.md R553). -/
theorem ppuTick_fb {s t : State} (hon : s.ppu.lcdc.getLsbD 7 = true) (h : ppuTick s = .ok t) :
    t.ppu.fb = (drawStep s.ppu).fb := by
  obtain ⟨u, hu, rfl⟩ := ppuTick_on hon h
  rw [scanStep_fb, dmaStep_eq hu, drawStep_fb, drawStep_fb]
  rfl

/-- In mode 3 the line has a row of the picture (60_exceptions.md R542, R552). -/
theorem State.Timed.line_lt_of_transfer {s : State} (hs : s.Timed) (h : s.ppu.mode = .transfer) : s.ppu.ly.toNat < 144 := by
  by_contra hv
  rw [hs.mode, modeAt, if_pos (Nat.le_of_not_lt hv)] at h
  cases h

/-- Settles O53: the tick's picture is one write, made in mode 3 before dot 240, of the colour at the tick's dot. -/
theorem pixelDrawn : Obligations.PixelDrawn := by
  intro s t hs hon h
  dsimp only
  rw [ppuTick_fb hon h, drawStep_fb]
  refine ⟨fun hm hd => ?_, fun hno => if_neg fun hc => hno ⟨hc.1, hc.2.1⟩⟩
  rw [if_pos ⟨hm, hd, hs.line_lt_of_transfer hm⟩]
  exact ⟨by rw [Memory.read_write_self]; exact pixelColour_toNat s.ppu _ _, fun k hk => Memory.read_write_other _ _ hk⟩

end Sys2Proof.Machine

/-! ### The requests of a tick -/

namespace Sys2Proof.Machine

theorem IrqSource.getLsbD_mask (src : IrqSource) (k : Nat) : src.mask.getLsbD k = decide (src.bit = k) := by
  have hbit : src.bit < 8 := by cases src <;> decide
  rw [IrqSource.mask, ← BitVec.twoPow_eq, BitVec.getLsbD_twoPow, decide_eq_true hbit, Bool.true_and]

/-- A request that is made under a condition sets its bit under it, and no other bit. -/
theorem requestIrq_if_getLsbD (c : Bool) (src : IrqSource) (s : State) (k : Nat) :
    (if c then requestIrq src s else s).irq.iflag.getLsbD k = (s.irq.iflag.getLsbD k || c && decide (src.bit = k)) := by
  cases c
  · simp
  · simp [requestIrq_iflag, IrqSource.getLsbD_mask]

/-- The STAT line is remembered (60_exceptions.md R556). -/
theorem statLineStep_ppu (s : State) : (statLineStep s).ppu = { s.ppu with statLine := statLineValue s.ppu } := by
  unfold statLineStep; dsimp only; split <;> rfl

theorem statLineStep_iflag_getLsbD (s : State) (k : Nat) : (statLineStep s).irq.iflag.getLsbD k =
    (s.irq.iflag.getLsbD k || (statLineValue s.ppu && !s.ppu.statLine) && decide (IrqSource.lcdStat.bit = k)) :=
  requestIrq_if_getLsbD _ _ _ k

/-- The rest of a tick before its STAT line: pixel, dot, coincidence and V-blank request (60_exceptions.md R541). -/
def beforeStatLine (s : State) : State :=
  let q := advanceDot (drawStep s.ppu)
  let t := { s with ppu := { q with coincidence := decide (q.ly = q.lyc) } }
  if entersVblank (drawStep s.ppu) then requestIrq .vblank t else t

theorem scanStep_beforeStatLine (s : State) :
    scanStep s = if s.params.statIrq then statLineStep (beforeStatLine s) else beforeStatLine s := rfl

theorem beforeStatLine_ppu (s : State) :
    (beforeStatLine s).ppu = { (scanStep s).ppu with statLine := s.ppu.statLine } := by
  have hq : (advanceDot (drawStep s.ppu)).statLine = s.ppu.statLine := by rw [advanceDot_eq, drawStep_eq]
  rw [scanStep_ppu, ← hq]
  unfold beforeStatLine
  dsimp only
  split <;> rfl

/-- The line does not depend on its own last value. -/
theorem statLineValue_beforeStatLine (s : State) : statLineValue (beforeStatLine s).ppu = statLineValue (scanStep s).ppu := by
  rw [beforeStatLine_ppu]; rfl

theorem beforeStatLine_iflag_getLsbD (s : State) (k : Nat) : (beforeStatLine s).irq.iflag.getLsbD k =
    (s.irq.iflag.getLsbD k || entersVblank (drawStep s.ppu) && decide (IrqSource.vblank.bit = k)) :=
  requestIrq_if_getLsbD _ _ _ k

section
variable {s : State}

/-- Without `STAT_IRQ` the rest of a tick has no STAT line (60_exceptions.md R556). -/
theorem scanStep_of_not_statIrq (h : s.params.statIrq = false) : scanStep s = beforeStatLine s := by
  rw [scanStep_beforeStatLine, h]; rfl

theorem scanStep_of_statIrq (h : s.params.statIrq = true) : scanStep s = statLineStep (beforeStatLine s) := by
  rw [scanStep_beforeStatLine, h]; rfl

/-- With `STAT_IRQ` the line is the one of the position the tick ends in, and its rising edge requests LCD-STAT. -/
theorem scanStep_statLine_of_statIrq (h : s.params.statIrq = true) :
    (scanStep s).ppu.statLine = statLineValue (scanStep s).ppu := by
  rw [← statLineValue_beforeStatLine, scanStep_of_statIrq h, statLineStep_ppu]

theorem scanStep_iflag_of_statIrq (h : s.params.statIrq = true) (k : Nat) : (scanStep s).irq.iflag.getLsbD k =
    ((beforeStatLine s).irq.iflag.getLsbD k ||
      ((scanStep s).ppu.statLine && !s.ppu.statLine) && decide (IrqSource.lcdStat.bit = k)) := by
  rw [scanStep_statLine_of_statIrq h, ← statLineValue_beforeStatLine, scanStep_of_statIrq h, statLineStep_iflag_getLsbD,
    beforeStatLine_ppu]

/-- Every bit of IF but that of LCD-STAT is as the V-blank request left it. -/
theorem scanStep_iflag_of_ne_lcdStat {k : Nat} (hk : IrqSource.lcdStat.bit ≠ k) :
    (scanStep s).irq.iflag.getLsbD k =
      (s.irq.iflag.getLsbD k || entersVblank (drawStep s.ppu) && decide (IrqSource.vblank.bit = k)) := by
  rw [← beforeStatLine_iflag_getLsbD]
  cases h : s.params.statIrq with
  | false => rw [scanStep_of_not_statIrq h]
  | true => rw [scanStep_iflag_of_statIrq h, decide_eq_false hk, Bool.and_false, Bool.or_false]

/-- The bit of LCD-STAT before the STAT line is as it was. -/
theorem beforeStatLine_iflag_lcdStat (s : State) : (beforeStatLine s).irq.iflag.getLsbD 1 = s.irq.iflag.getLsbD 1 := by
  rw [beforeStatLine_iflag_getLsbD, decide_eq_false (by decide), Bool.and_false, Bool.or_false]

end

/-- Settles O52: the STAT line is the last part of a tick, and the only one that requests LCD-STAT. -/
theorem statInterrupt : Obligations.StatInterrupt := by
  refine ⟨⟨rfl, rfl⟩, fun s t hon h => ?_⟩
  obtain ⟨u, hu, rfl⟩ := ppuTick_on hon h
  obtain ⟨hparams, hirq, hline, hsel⟩ : s.params = u.params ∧ s.irq = u.irq ∧ s.ppu.statLine = u.ppu.statLine ∧
      s.ppu.statSel = (scanStep u).ppu.statSel := by
    rw [scanStep_eq, dmaStep_eq hu]; exact ⟨rfl, rfl, rfl, rfl⟩
  rw [hparams, hirq, hline, hsel]
  refine ⟨fun hst => ?_, fun hst => ⟨scanStep_statLine_of_statIrq hst, ?_⟩⟩
  · rw [scanStep_of_not_statIrq hst]
    exact ⟨beforeStatLine_iflag_lcdStat u, by rw [beforeStatLine_ppu]⟩
  · rw [scanStep_iflag_of_statIrq hst, beforeStatLine_iflag_lcdStat, decide_eq_true (p := IrqSource.lcdStat.bit = 1) rfl,
      Bool.and_true]

end Sys2Proof.Machine

/-! ### The events of a tick -/

namespace Sys2Proof.Machine

/-- The objects that overlap a line, in natural numbers (60_exceptions.md R555). -/
theorem oamScan_eq (p : Ppu) : oamScan p = (List.range 40).filter fun i =>
    let top := (Memory.read p.oam (4 * i)).toNat
    decide (top ≤ p.ly.toNat + 16) && decide (p.ly.toNat + 16 < top + if p.lcdc.getLsbD 2 then 16 else 8) := by
  unfold oamScan objectHeight
  refine List.filter_congr fun i _ => ?_
  dsimp only
  congr 1 <;> rw [decide_eq_decide]
  · omega
  · split <;> omega

theorem oamScan_drawStep (p : Ppu) : oamScan (drawStep p) = oamScan p := by
  obtain ⟨hly, -, -, -, hlcdc, -, -, hoam, -⟩ := drawStep_pos p
  unfold oamScan
  rw [hly, hlcdc, hoam]

/-- A tick enters V-blank where LY becomes 144 (60_exceptions.md R544). -/
theorem entersVblank_iff_ly (s : State) :
    entersVblank (drawStep s.ppu) = decide (s.ppu.ly ≠ 144 ∧ (scanStep s).ppu.ly = 144) := by
  rw [entersVblank_drawStep, scanStep_ly, ← Bool.decide_and, decide_eq_decide]
  generalize s.ppu.ly = y
  by_cases hdot : s.ppu.dot + 1 = 456
  · simp only [hdot, true_and, if_true]
    revert y; decide
  · simp [hdot]

theorem scanStep_lineObjects (s : State) : (scanStep s).ppu.lineObjects =
    if s.ppu.mode = .oamScan ∧ s.ppu.dot + 1 = 80 then oamScan s.ppu else s.ppu.lineObjects := by
  obtain ⟨-, -, hdot, hmode, -, -, -, -, hobj⟩ := drawStep_pos s.ppu
  rw [scanStep_ppu, ← oamScan_drawStep, ← hdot, ← hmode, ← hobj]
  exact advanceDot_lineObjects _

theorem scanStep_mode_of_scanned {s : State} (hm : s.ppu.mode = .oamScan) (hd : s.ppu.dot + 1 = 80) :
    (scanStep s).ppu.mode = .transfer := by
  obtain ⟨-, -, hdot, hmode, -⟩ := drawStep_pos s.ppu
  rw [scanStep_ppu]
  exact advanceDot_mode_of_scanned _ ⟨hmode.trans hm, by rw [hdot, hd]⟩

/-- Settles O50: of a tick the DMA step changes OAM and the sub-state, and the rest of it everything else. -/
theorem ppuTickEvents : Obligations.PpuTickEvents := by
  refine ⟨fun s hoff => if_neg (by rw [hoff]; exact Bool.false_ne_true), fun s t hon h => ?_⟩
  obtain ⟨u, hu, rfl⟩ := ppuTick_on hon h
  obtain ⟨hirq, hly, hlcdc, hmode, hdot, hobj⟩ : s.irq = u.irq ∧ s.ppu.ly = u.ppu.ly ∧ s.ppu.lcdc = u.ppu.lcdc ∧
      s.ppu.mode = u.ppu.mode ∧ s.ppu.dot = u.ppu.dot ∧ s.ppu.lineObjects = u.ppu.lineObjects := by
    rw [dmaStep_eq hu]; exact ⟨rfl, rfl, rfl, rfl, rfl, rfl⟩
  obtain ⟨hoam, hdma⟩ := scanStep_oam_dmaState u
  refine ⟨ppuTick_eq h, fun k hk => ?_, fun hidle => ?_, scanStep_coincidence u, ?_, fun hm hd => ?_, fun hno => ?_⟩
  · have hk0 : IrqSource.vblank.bit ≠ k := (Nat.lt_of_lt_of_le Nat.zero_lt_two hk).ne
    have hk1 : IrqSource.lcdStat.bit ≠ k := (Nat.lt_of_lt_of_le Nat.one_lt_two hk).ne
    rw [scanStep_iflag_of_ne_lcdStat hk1, decide_eq_false hk0, Bool.and_false, Bool.or_false, hirq]
  · obtain ⟨-, rfl⟩ | ⟨x, v, hx, -⟩ := dmaStep_ok hu
    · exact ⟨hoam, hdma.trans hidle⟩
    · exact nomatch hidle.symm.trans hx
  · rw [hirq, hly, scanStep_iflag_of_ne_lcdStat (by decide), entersVblank_iff_ly,
      decide_eq_true (p := IrqSource.vblank.bit = 0) rfl, Bool.and_true]
  · rw [hmode] at hm
    have hd' : u.ppu.dot + 1 = 80 := by rw [← hdot, hd]
    refine ⟨scanStep_mode_of_scanned hm hd', ?_⟩
    rw [scanStep_lineObjects, if_pos ⟨hm, hd'⟩, oamScan_eq, hoam, hly, hlcdc]
  · rw [scanStep_lineObjects, if_neg, hobj]
    rw [← hmode, ← hdot]
    exact fun hc => hno ⟨hc.1, Nat.succ.inj hc.2⟩

end Sys2Proof.Machine

/-! ### OAM-DMA -/

namespace Sys2Proof.Machine

theorem wordOf_page_toNat (page : Byte) : (wordOf page 0).toNat = page.toNat * 0x100 := by
  simp [wordOf_toNat, Nat.mul_comm]

/-- The addresses of a source page (60_exceptions.md R560). -/
theorem dmaSource_toNat (page : Byte) {k : Nat} (hk : k < 0x100) :
    (wordOf page 0 + BitVec.ofNat 16 k).toNat = page.toNat * 0x100 + k := by
  have hpage := page.isLt
  rw [BitVec.toNat_add, wordOf_page_toNat, BitVec.toNat_ofNat]
  omega

theorem dmaSource_lt {page : Byte} (hp : page.toNat ≤ 0xDF) {k : Nat} (hk : k < 160) :
    (wordOf page 0 + BitVec.ofNat 16 k).toNat < 0xE000 := by
  rw [dmaSource_toNat page (by omega)]; omega

section
variable {s t : State} {x : DmaTransfer}

/-- A tick changes the reading of no address that a transfer can copy from: ROM, video RAM, battery RAM and work RAM. -/
theorem ppuTick_peek {a : Word} (h : ppuTick s = .ok t) (ha : a.toNat < 0xE000) : t.peek a = s.peek a := by
  have hx := s.target_spec a
  rw [State.peek_def, State.peek_def, ppuTick_eq h]
  show State.peekAt _ (s.target a) = _
  cases ht : s.target a <;> rw [ht] at hx <;> simp only [TargetAt] at hx
  case boot | rom | romBank | vram | cartRam | wram => rfl
  case unmapped => rfl
  all_goals omega

/-- A tick copies the byte it reads and goes on to the next, or is idle after byte 159 (60_exceptions.md R561). -/
theorem ppuTick_copies {v : Byte} (hon : s.ppu.lcdc.getLsbD 7 = true) (hx : s.ppu.dmaState = some x)
    (hv : s.peek (x.source + BitVec.ofNat 16 x.offset) = some v) : ∃ t, ppuTick s = .ok t ∧
      t.ppu.oam = Memory.write s.ppu.oam x.offset v ∧
      t.ppu.dmaState = if x.offset = 159 then none else some { x with offset := x.offset + 1 } := by
  have hd : dmaStep s = .ok { s with ppu := { s.ppu with
      oam := Memory.write s.ppu.oam x.offset v
      dmaState := if x.offset = 159 then none else some { x with offset := x.offset + 1 } } } := by
    rw [dmaStep, hx]; simp only [busRead_agent.mpr hv]
  exact ⟨_, by rw [ppuTick, if_pos hon, hd], scanStep_oam_dmaState _⟩

/-- A tick whose DMA read faults ends, and so does its cycle, with that fault and the state before (60_exceptions.md R463). -/
theorem cycleTick_dma_error {e : Fault} (hon : s.ppu.lcdc.getLsbD 7 = true) (hx : s.ppu.dmaState = some x)
    (h : busRead .dma (x.source + BitVec.ofNat 16 x.offset) s = .error e) : cycleTick s = .error e := by
  rw [cycleTick, ppuTick_dma_error hon hx h]

theorem exists_busRead_error {g : Agent} {a : Word} (h : s.peek a = none) : ∃ e, busRead g a s = .error e := by
  cases hr : busRead g a s with
  | ok v => exact nomatch h.symm.trans (busRead_agent.mp hr)
  | error e => exact ⟨e, rfl⟩

end

/-- `t` is `s` after `j` ticks of a transfer from a page whose byte k is `src k`: those bytes are copied, and what the page reads as
is unchanged (60_exceptions.md R561). -/
structure Copied (page : Byte) (src : Nat → Byte) (s : State) (j : Nat) (t : State) : Prop where
  on : t.ppu.lcdc.getLsbD 7 = true
  dma : t.ppu.dmaState = if j = 160 then none else some { source := wordOf page 0, offset := j }
  oam : ∀ k, Memory.read t.ppu.oam k = if k < j then src k else Memory.read s.ppu.oam k
  reads : ∀ a : Word, a.toNat < 0xE000 → t.peek a = s.peek a

section
variable {page : Byte} {src : Nat → Byte} {s t : State} {j : Nat}

theorem Copied.tick (h : Copied page src s j t) (hp : page.toNat ≤ 0xDF) (hj : j < 160)
    (hv : s.peek (wordOf page 0 + BitVec.ofNat 16 j) = some (src j)) :
    ∃ u, ppuTick t = .ok u ∧ Copied page src s (j + 1) u := by
  have hx : t.ppu.dmaState = some { source := wordOf page 0, offset := j } := h.dma.trans (if_neg hj.ne)
  obtain ⟨u, hu, hoam, hdma⟩ := ppuTick_copies h.on hx ((h.reads _ (dmaSource_lt hp hj)).trans hv)
  refine ⟨u, hu, by rw [ppuTick_lcdc hu]; exact h.on, ?_, fun k => ?_, fun a ha => (ppuTick_peek hu ha).trans (h.reads a ha)⟩
  · rw [hdma]; exact ite_congr (by simp) (fun _ => rfl) fun _ => rfl
  · rw [hoam, Memory.read_write, h.oam k]
    obtain hlt | rfl | hgt := Nat.lt_trichotomy k j
    · rw [if_neg hlt.ne, if_pos hlt, if_pos (Nat.lt_succ_of_lt hlt)]
    · rw [if_pos rfl, if_pos (Nat.lt_succ_self k)]
    · rw [if_neg hgt.ne', if_neg hgt.not_gt, if_neg (Nat.not_lt.mpr hgt)]

/-- The ticks of a transfer, one byte each. -/
theorem Copied.ticks (h : Copied page src s 0 s) (hp : page.toNat ≤ 0xDF) (hj : j ≤ 160)
    (hsrc : ∀ k, k < j → s.peek (wordOf page 0 + BitVec.ofNat 16 k) = some (src k)) :
    ∃ t, ppuTicks j s = .ok t ∧ Copied page src s j t := by
  induction j with
  | zero => exact ⟨s, rfl, h⟩
  | succ j ih =>
    obtain ⟨t, ht, hc⟩ := ih (Nat.le_of_succ_le hj) fun k hk => hsrc k (Nat.lt_succ_of_lt hk)
    obtain ⟨u, hu, hcu⟩ := hc.tick hp hj (hsrc j (Nat.lt_succ_self j))
    exact ⟨u, (ppuTicks_succ ht).trans hu, hcu⟩

end

/-- Settles O54: each tick of a transfer copies its byte where that can be read, and is the fault of the read where it cannot. -/
theorem dmaCopies : Obligations.DmaCopies := by
  refine ⟨fun s page src j hon hp hx hj hsrc => ?_, fun s x hon hx => ?_⟩
  · have hs : Copied page src s 0 s := ⟨hon, hx, fun _ => rfl, fun _ _ => rfl⟩
    obtain ⟨t, ht, hc⟩ := hs.ticks hp hj hsrc
    refine ⟨t, ht, hc.dma, fun k _ => hc.oam k, fun hj' hnone => ?_⟩
    obtain ⟨e, he⟩ := exists_busRead_error (g := .dma) ((hc.reads _ (dmaSource_lt hp hj')).trans hnone)
    exact ⟨e, he, (ppuTicks_succ ht).trans (ppuTick_dma_error hc.on (hc.dma.trans (if_neg hj'.ne)) he)⟩
  · have hfault : ∀ {e}, busRead .dma (x.source + BitVec.ofNat 16 x.offset) s = .error e → ppuTick s = .error e :=
      ppuTick_dma_error hon hx
    refine ⟨fun e he => ⟨hfault he, cycleTick_dma_error hon hx he, busRead_left he⟩, fun hlo hhi hc => hfault ?_,
      fun hlt hov hlen => hfault ?_, fun hlo hhi hlen => hfault ?_⟩
    · rw [busRead_cartRam hlo (Nat.le_of_lt_succ hhi), State.ramOpen_eq_false hc]; rfl
    · rw [busRead_rom (fun hb => absurd (hov hb.1) (by omega)) (Nat.le_of_lt_succ hlt), if_neg (Nat.not_lt.mpr hlen)]
    · exact (busRead_romBank hlo (Nat.le_of_lt_succ hhi)).trans (if_neg (Nat.not_lt.mpr hlen))

theorem wordOf_page (page : Byte) : wordOf page 0 = BitVec.ofNat 16 (page.toNat * 0x100) := by
  rw [← wordOf_page_toNat, BitVec.ofNat_toNat, BitVec.setWidth_eq]

theorem writeDma_of_busy {s : State} {x : DmaTransfer} (h : s.ppu.dmaState = some x) (v : Byte) :
    writeDma v s = .error (.dmaRetrigger .cpu v x.offset s) := by
  rw [writeDma, h]

theorem writeDma_of_idle {s : State} (h : s.ppu.dmaState = none) (v : Byte) : writeDma v s =
    if v.toNat ≤ 0xDF then
      .ok { s with ppu := { s.ppu with dma := v, dmaState := some { source := wordOf v 0, offset := 0 } } }
    else .error (.dmaSource .cpu v s) := by
  rw [writeDma, h]

/-- Settles O55: the write of the DMA register tests the engine first and the page second; LY takes no write. -/
theorem dmaStart : Obligations.DmaStart := by
  intro s v
  have hdma : busWrite 0xFF46 v s = writeDma v s := busWrite_ppu (r := .dma) rfl
  rw [hdma]
  refine ⟨fun h hv => ?_, fun x h => writeDma_of_busy h v, fun h hv => ?_, busWrite_ppu (r := .ly) rfl⟩
  · rw [writeDma_of_idle h, if_pos hv, wordOf_page]
  · rw [writeDma_of_idle h, if_neg (Nat.not_le.mpr hv)]

end Sys2Proof.Machine

/-! ### Reset, construction and the save-state install -/

namespace Sys2Proof.Machine

/-- Settles O58: every memory of the reset state is empty, and its position is dot 0 of line 0. -/
theorem resetInv : Obligations.ResetInv :=
  ⟨⟨by decide, by decide, by decide, by decide, nofun, nofun, rfl, rfl, rfl, rfl, rfl, rfl, rfl, rfl, rfl⟩, by decide,
    by decide, rfl⟩

/-- Settles O60: the install is refused by the LY byte alone, and otherwise stores what it is given. -/
theorem saveStateInstall : Obligations.SaveStateInstall := by
  intro x s
  refine ⟨fun h => if_pos h, fun h => ⟨_, if_neg (Nat.not_lt.mpr h), ?_⟩⟩
  exact ⟨Memory.read_ofBytes_vector x.vram, Memory.read_ofBytes_vector x.oam, rfl, rfl, rfl, rfl, rfl, rfl, rfl, rfl, rfl, rfl,
    rfl, rfl, rfl, rfl, rfl, rfl, rfl, rfl, rfl, rfl, rfl, rfl, rfl, rfl, rfl, rfl, rfl, rfl, rfl⟩

/-- The RAM size codes of the header (20_memory.md R113). -/
theorem ramSizeOf_eq_lookup (code : Byte) : ramSizeOf code =
    [(0, 0), (2, 0x2000), (3, 0x8000), (4, 0x20000), (5, 0x10000)].lookup code.toNat := by
  revert code; decide

theorem ramSizeOf_eq_none_iff (code : Byte) : ramSizeOf code = none ↔ code.toNat ∉ [0, 2, 3, 4, 5] := by
  revert code; decide

section
variable {x : SessionArgs}

/-- The last check, of an image that passes the other two (20_memory.md R113). -/
theorem construct_of_ramSizeOf_none (hlen : 0x4000 ≤ x.rom.length) (htype : (x.rom.getD 0x147 0).toNat ≤ 3)
    (h : ramSizeOf (x.rom.getD 0x149 0) = none) : construct x = .error (.ramSizeCode (x.rom.getD 0x149 0)) := by
  rw [construct, if_neg (Nat.not_lt.mpr hlen)]
  dsimp only
  rw [if_neg (Nat.not_lt.mpr htype), h]

theorem construct_of_ramSizeOf_some {size : Nat} (hlen : 0x4000 ≤ x.rom.length) (htype : (x.rom.getD 0x147 0).toNat ≤ 3)
    (h : ramSizeOf (x.rom.getD 0x149 0) = some size) : construct x = .ok (sessionState x size) := by
  rw [construct, if_neg (Nat.not_lt.mpr hlen)]
  dsimp only
  rw [if_neg (Nat.not_lt.mpr htype), h]

/-- The RAM size that a session's ROM names. -/
theorem sessionState_ramSize (n : Nat) : (sessionState x n).ramSize = (ramSizeOf (x.rom.getD 0x149 0)).getD 0 := by
  rw [State.ramSize]
  exact congrArg (fun c => (ramSizeOf c).getD 0) (Memory.read_ofBytes x.rom 0x149)

end

/-- Settles O59: the three checks in their order, and the session's state field by field. -/
theorem construction : Obligations.Construction := by
  intro x
  refine ⟨fun h => if_pos h, fun hlen htype => ?_, fun hlen htype hcode => ?_, fun hlen htype hcode => ?_⟩
  · rw [construct, if_neg (Nat.not_lt.mpr hlen)]
    exact if_pos htype
  · exact construct_of_ramSizeOf_none hlen htype ((ramSizeOf_eq_none_iff _).mpr hcode)
  · obtain ⟨size, hsize⟩ := Option.ne_none_iff_exists'.mp (mt (ramSizeOf_eq_none_iff _).mp (not_not.mpr hcode))
    have hram : (sessionState x size).ramSize = size := by rw [sessionState_ramSize, hsize]; rfl
    refine ⟨sessionState x size, construct_of_ramSizeOf_some hlen htype hsize, rfl, rfl,
      ⟨rfl, rfl, rfl, fun k _ => Memory.read_ofBytes x.rom k, ?_, fun k hk => ?_⟩,
      ⟨Memory.read_ofBytes_vector _, Memory.read_ofBytes_vector _, Memory.read_ofBytes_vector _, Memory.read_ofBytes_vector _⟩,
      ⟨rfl, rfl, rfl, rfl, rfl, rfl, rfl, fun _ => rfl⟩, ⟨rfl, rfl, rfl, rfl, rfl, rfl, rfl, rfl, rfl, rfl, rfl⟩,
      ⟨rfl, rfl, rfl, rfl⟩, rfl, ⟨rfl, rfl, rfl, Memory.read_ofBytes_vector _⟩, rfl, rfl, rfl, rfl, rfl, fun v hv => ?_⟩
    · rw [hram, ← hsize, ramSizeOf_eq_lookup]
    · rw [hram] at hk
      exact (Memory.read_ofBytes _ k).trans (by simp [List.getD_eq_getElem?_getD, hk])
    · have hboot : (sessionState x size).params.boot = Memory.ofBytes v.toList := by
        show ((x.boot.map fun v => Memory.ofBytes v.toList).getD []) = _
        rw [hv]; rfl
      rw [hboot]
      exact Memory.read_ofBytes_vector v

end Sys2Proof.Machine
